-- ==== Sys2Proof/Config.lean ====
section
/-! DEFINITION. What the built block fixes (00_scope.md R5 to R10; 93_implementation_defined.md U8) and the
values the spec leaves free. The types of the registers and the tables of the decoder are written with these
constants. An `opaque` constant has no body: nothing can be proved about its value. -/

namespace Sys2Proof.Config

/-! ### Frame geometry (00_scope.md R5) -/

/-- `ID_W = 11`, the width of an identifier. -/
@[simp] abbrev idW : Nat := 11

/-- `DLC_MAX = 8`, the largest dataLength. -/
@[simp] abbrev dlcMax : Nat := 8

/-- `PAYLOAD_MAX = 8`, the number of payload positions. -/
@[simp] abbrev payloadMax : Nat := 8

/-! ### Output counts (00_scope.md R8) -/

/-- `NUM_OUT = 4` display outputs. -/
@[simp] abbrev numOut : Nat := 4

/-- `NUM_DIAG = 3` diagnostic outputs. -/
@[simp] abbrev numDiag : Nat := 3

/-- `NUM_BTN = 1` button. -/
@[simp] abbrev numBtn : Nat := 1

/-! ### Identifiers and constants of the tests -/

/-- `GROUP_ID = 26` (00_scope.md R6). -/
def groupId : BitVec idW := 26#11

/-- `GROUP_NIBBLE = GROUP_ID mod 16`, zero-extended to a byte (00_scope.md R6, 30_encoding.md R77). -/
def groupNibble : BitVec 8 := (groupId.setWidth 4).setWidth 8

/-- dataLength of the status frame (40_codec.md R90). -/
def statusLen : Nat := 1

/-- `VAL_ID = 0x026 = 38`, not `GROUP_ID` (00_scope.md R7, 90_conflicts.md C1). -/
def valId : BitVec idW := 0x026#11

/-- `VAL_LEN = 1` (00_scope.md R7). -/
def valLen : BitVec 4 := 1#4

/-- `VAL_PAYLOAD = 0x14 mod 16 = 4`, a whole byte (00_scope.md R7, 30_encoding.md R77). -/
def valPayload : BitVec 8 := ((0x14#8).setWidth 4).setWidth 8

/-- `FILTER_MASK = 0xFFE0` (00_scope.md R10): the one literal the source gives for the acceptance
filter; used by no rule. -/
def filterMask : BitVec 16 := 0xFFE0#16

/-- `SETTLE_D` (00_scope.md R10), OPEN: the duration of the settling delay; used by no rule. -/
opaque settleD : Nat

/-! ### Free values -/

/-- The n-th free byte: a slot byte beyond dataLength for which no draw was supplied (20_memory.md R54). -/
opaque freeByte : Nat → BitVec 8

/-- The n-th free level of `tx_err_i`: a transmit for which no answer was supplied (41_gateways.md R100). -/
opaque freeTxErr : Nat → BitVec 1

/-- The n-th free frame word: `FR` or `SLOT` after a reset (10_state.md R38). -/
opaque freeFrameWord : Nat → BitVec 79

/-- The n-th free bit: `BTN` after a reset (10_state.md R38). -/
opaque freeBit : Nat → Bool

/-- Byte j of `tx_data_o` beyond the transmitted frame's dataLength, at the n-th event of the trace
(30_encoding.md R72: unspecified). -/
opaque freeTxByte : Nat → Nat → BitVec 8

end Sys2Proof.Config
end

