-- ==== Sys2Proof/Word.lean ====
section
/-! DEFINITION. The words of the block: a byte, the 79-bit frame register, the frame record as it
travels on the bus, and the enumerations of spec/30_encoding.md R76. -/

namespace Sys2Proof

/-- One payload byte (00_scope.md R5: "A byte is 8 bits"). -/
abbrev Byte := BitVec 8

/-- A DisplayPattern, one bit per display output (00_scope.md R8, 10_state.md R23). -/
abbrev Pattern := BitVec Config.numOut

/-- A 79-bit frame register, the shape of `FR` and `SLOT` (10_state.md R22, R26; 30_encoding.md R70):
identifier, dataLength code and all eight payload bytes, those beyond dataLength included. -/
structure Frame where
  id  : BitVec Config.idW
  dlc : BitVec 4
  p0  : Byte
  p1  : Byte
  p2  : Byte
  p3  : Byte
  p4  : Byte
  p5  : Byte
  p6  : Byte
  p7  : Byte
  deriving DecidableEq, Repr, Inhabited

/-- A Frame as it travels on the bus (30_encoding.md R70, written as in 00_scope.md R15): the identifier
and the meaningful payload bytes only, so that dataLength is their number and a byte beyond it is no
part of the frame. -/
structure WireFrame where
  id   : BitVec Config.idW
  data : List Byte
  deriving DecidableEq, Repr, Inhabited

/-- The nine values of the phase register `PH` (10_state.md R21). -/
inductive Phase where
  | txchk | delay | rxchk | clr | set0 | set1 | set2 | set3 | ack
  deriving DecidableEq, Repr, Inhabited

/-- The three values of the settle timer `TMR` (10_state.md R28). -/
inductive Timer where
  | idle | running | done
  deriving DecidableEq, Repr, Inhabited

/-- The gateway's answer to a transmit (41_gateways.md R100). -/
inductive TxAnswer where
  | ok | busError
  deriving DecidableEq, Repr, Inhabited

/-- The four outcomes of a validation (43_validator.md R141, R146). -/
inductive ValidationOutcome where
  | headerMismatch | lengthMismatch | payloadMismatch | accepted
  deriving DecidableEq, Repr, Inhabited

/-- The two legal values of the OPEN parameter `DECODE_SEL` (00_scope.md R9). -/
inductive DecodeSel where
  | p0 | p1
  deriving DecidableEq, Repr, Inhabited

/-- The index of a diagnostic output, 1 to 3; "the index 0 does not exist" (10_state.md R24). -/
inductive DiagIndex where
  | d1 | d2 | d3
  deriving DecidableEq, Repr, Inhabited

/-- The two halves of `WAIT` (41_gateways.md R108: `WAITSTART` and `WAITDONE`). -/
inductive WaitHalf where
  | start | done
  deriving DecidableEq, Repr, Inhabited

end Sys2Proof
end

