-- ==== Sys2Proof/Syntax.lean ====
section
/-! DEFINITION. The operations of the block, one constructor per row of spec/opcode_table.json, and the
words that select them. -/

namespace Sys2Proof

/-- The operations of the block (30_encoding.md R81 and the frame classes of R72 to R74). -/
inductive Instr where
  /-- `STATUS`, the one frame the block transmits (30_encoding.md R72). -/
  | status
  /-- `RX.GROUP`, a polled frame accepted for decoding (30_encoding.md R73). -/
  | rxGroup (f : Frame)
  /-- `RX.OTHER`, every other polled frame (30_encoding.md R73). -/
  | rxOther (f : Frame)
  /-- `VAL.ACCEPTED` (30_encoding.md R74 row 1). -/
  | valAccepted (f : Frame)
  /-- `VAL.PAYLOADMISMATCH` (30_encoding.md R74 row 2). -/
  | valPayloadMismatch (f : Frame)
  /-- `VAL.LENGTHMISMATCH` (30_encoding.md R74 row 3). -/
  | valLengthMismatch (f : Frame)
  /-- `VAL.HEADERMISMATCH` (30_encoding.md R74 row 4). -/
  | valHeaderMismatch (f : Frame)
  /-- `DEC`, the display byte (40_codec.md R91). -/
  | dec (b : Byte)
  /-- `TXCHK` (42_protocol_loop.md R121). -/
  | txchk
  /-- `DELAY` (42_protocol_loop.md R122). -/
  | delay
  /-- `RXCHK` (42_protocol_loop.md R123). -/
  | rxchk
  /-- `CLR` (42_protocol_loop.md R124). -/
  | clr
  /-- `SET0` (42_protocol_loop.md R125). -/
  | set0
  /-- `SET1` (42_protocol_loop.md R126). -/
  | set1
  /-- `SET2` (42_protocol_loop.md R127). -/
  | set2
  /-- `SET3` (42_protocol_loop.md R128). -/
  | set3
  /-- `ACK` (42_protocol_loop.md R129). -/
  | ack
  /-- `VALIDATE` (43_validator.md R141). -/
  | validate
  /-- `RESET` (70_reset_and_hazards.md R170). -/
  | reset
  /-- `DELIVER` (41_gateways.md R103). -/
  | deliver (f : WireFrame)
  /-- `TRANSMIT` (41_gateways.md R100). -/
  | transmit (f : WireFrame)
  /-- `POLL` (41_gateways.md R101). -/
  | poll
  /-- `CLRPEND` (41_gateways.md R102). -/
  | clrpend
  /-- `BTNRD` (41_gateways.md R104). -/
  | btnrd
  /-- `SETOUT` (41_gateways.md R105): index 0 to 3 and the level. -/
  | setout (i : BitVec 2) (v : Bool)
  /-- `CLROUT` (41_gateways.md R106). -/
  | clrout
  /-- `SETDIAG` (41_gateways.md R107): index 1 to 3. -/
  | setdiag (k : DiagIndex)
  /-- `WAIT` (41_gateways.md R108), in two halves. -/
  | wait (h : WaitHalf)
  /-- `ENC` (40_codec.md R90). -/
  | enc
  /-- `GRPCHK` (40_codec.md R92). -/
  | grpchk (f : Frame)
  /-- `SELBYTE` (40_codec.md R93). -/
  | selbyte (f : Frame)
  /-- `PATBYTE` (40_codec.md R94). -/
  | patbyte (pat : Pattern)
  deriving DecidableEq, Repr, Inhabited

/-- What the bits of a word mean: the "format" of its row in spec/opcode_table.json. Frame words are read
on three paths (sent, loop, validator). The rows REQ, PRIM and FUNC have no code of their own, so
the operation itself is the selector (DESIGN CHOICE, log 14: safe, the spec gives these rows no bits). -/
inductive Selector where
  /-- a frame word handed to the transmitter -/
  | fwTx
  /-- a frame word polled by the loop -/
  | fwRx
  /-- a frame word read by the validator -/
  | fwVal
  /-- a display byte -/
  | db8
  /-- a phase code -/
  | ph4
  | reqValidate | reqReset | reqDeliver
  | primTransmit | primPoll | primClrpend | primBtnrd | primSetout | primClrout | primSetdiag | primWait
  | funcEnc | funcGrpchk | funcSelbyte | funcPatbyte
  deriving DecidableEq, Repr, Inhabited

/-- A word presented to the block: which port it stands on, and its bits as an unsigned number. -/
structure IWord where
  sel  : Selector
  bits : Nat
  deriving DecidableEq, Repr, Inhabited

end Sys2Proof
end

