-- ==== Sys2Proof/WellFormed.lean ====
section
/-! DEFINITION. Which terms of `Instr` are operations of the block: a frame class holds only a frame of
that class (30_encoding.md R73, R74), and a bus frame has at most eight payload bytes (R70). -/

namespace Sys2Proof

/-- At most `PAYLOAD_MAX` payload bytes: "ordered sequence of up to 8 bytes" (30_encoding.md R70). -/
def WireFrame.wellFormed (f : WireFrame) : Bool := decide (f.data.length ≤ Config.payloadMax)

/-- The check of one term. Every frame register, byte, pattern and index is legal as it stands, because
its type has no value outside the spec's range (20_memory.md R53). -/
def Instr.wellFormed : Instr → Bool
  | .status => true
  | .rxGroup f => f.p0 == Config.groupNibble
  | .rxOther f => f.p0 != Config.groupNibble
  | .valAccepted f => f.id == Config.valId && f.dlc == Config.valLen && f.p0 == Config.valPayload
  | .valPayloadMismatch f => f.id == Config.valId && f.dlc == Config.valLen && f.p0 != Config.valPayload
  | .valLengthMismatch f => f.id == Config.valId && f.dlc != Config.valLen
  | .valHeaderMismatch f => f.id != Config.valId
  | .dec _ => true
  | .txchk => true
  | .delay => true
  | .rxchk => true
  | .clr => true
  | .set0 => true
  | .set1 => true
  | .set2 => true
  | .set3 => true
  | .ack => true
  | .validate => true
  | .reset => true
  | .deliver f => f.wellFormed
  | .transmit f => f.wellFormed
  | .poll => true
  | .clrpend => true
  | .btnrd => true
  | .setout _ _ => true
  | .clrout => true
  | .setdiag _ => true
  | .wait _ => true
  | .enc => true
  | .grpchk _ => true
  | .selbyte _ => true
  | .patbyte _ => true

end Sys2Proof
end

