-- ==== Sys2Proof/Decode.lean ====
section
/-! DEFINITION. Reading a word (30_encoding.md): the frame word, the codes of the enumerations, a decoder
total on any bits that rejects by name, and the encoder written from the same tables. -/

namespace Sys2Proof

/-! ### The frame word `FW` (30_encoding.md R71) -/

/-- Payload byte j of a frame register, "indexed by payload position 0 to 7" (10_state.md R31). -/
def Frame.byte (f : Frame) (j : Fin 8) : Byte :=
  match j with
  | 0 => f.p0
  | 1 => f.p1
  | 2 => f.p2
  | 3 => f.p3
  | 4 => f.p4
  | 5 => f.p5
  | 6 => f.p6
  | 7 => f.p7

/-- A frame register with given header whose payload byte j is `g j`. -/
def Frame.ofBytes (id : BitVec Config.idW) (dlc : BitVec 4) (g : Fin 8 → Byte) : Frame :=
  { id := id, dlc := dlc, p0 := g 0, p1 := g 1, p2 := g 2, p3 := g 3, p4 := g 4, p5 := g 5, p6 := g 6, p7 := g 7 }

/-- The frame word of a frame register: `id` at bits 78:68, `dlc` at 67:64, byte 0 at 63:56 down to
byte 7 at 7:0 (30_encoding.md R71). -/
def Frame.toFW (f : Frame) : BitVec 79 :=
  f.id ++ f.dlc ++ f.p0 ++ f.p1 ++ f.p2 ++ f.p3 ++ f.p4 ++ f.p5 ++ f.p6 ++ f.p7

/-- The frame register a frame word spells (30_encoding.md R71). -/
def Frame.ofFW (w : BitVec 79) : Frame where
  id  := w.extractLsb' 68 Config.idW
  dlc := w.extractLsb' 64 4
  p0  := w.extractLsb' 56 8
  p1  := w.extractLsb' 48 8
  p2  := w.extractLsb' 40 8
  p3  := w.extractLsb' 32 8
  p4  := w.extractLsb' 24 8
  p5  := w.extractLsb' 16 8
  p6  := w.extractLsb' 8 8
  p7  := w.extractLsb' 0 8

/-- dataLength of a bus frame: "the number of meaningful bytes in payload" (30_encoding.md R70). -/
def WireFrame.dataLength (f : WireFrame) : Nat := f.data.length

/-- A bus frame in a register, its payload positions beyond dataLength filled by `fill`. -/
def WireFrame.toFrame (f : WireFrame) (fill : Fin 8 → Byte) : Frame :=
  Frame.ofBytes f.id (BitVec.ofNat 4 f.dataLength) fun j => (f.data[j.val]?).getD (fill j)

/-- The frame word of a bus frame, its digits that are no part of the frame written as zero. -/
def WireFrame.toFW (f : WireFrame) : BitVec 79 := (f.toFrame fun _ => 0#8).toFW

/-- The bus frame a frame register spells: the first `dlc` bytes, and no byte beyond (30_encoding.md R70). -/
def Frame.toWire (f : Frame) : WireFrame :=
  { id := f.id, data := [f.p0, f.p1, f.p2, f.p3, f.p4, f.p5, f.p6, f.p7].take f.dlc.toNat }

/-! ### Codes of the enumerations (30_encoding.md R76) -/

/-- `PH`, 4 bits. -/
def Phase.code : Phase → BitVec 4
  | .txchk => 0b0000#4
  | .delay => 0b0001#4
  | .rxchk => 0b0010#4
  | .clr => 0b0011#4
  | .set0 => 0b0100#4
  | .set1 => 0b0101#4
  | .set2 => 0b0110#4
  | .set3 => 0b0111#4
  | .ack => 0b1000#4

/-- `ValidationOutcome`, 2 bits. -/
def ValidationOutcome.code : ValidationOutcome → BitVec 2
  | .headerMismatch => 0#2
  | .lengthMismatch => 1#2
  | .payloadMismatch => 2#2
  | .accepted => 3#2

/-- The transmit answer, 1 bit. -/
def TxAnswer.code : TxAnswer → BitVec 1
  | .ok => 0#1
  | .busError => 1#1

/-- The transmit answer a level of `tx_err_i` stands for. -/
def TxAnswer.ofCode (b : BitVec 1) : TxAnswer := if b = 1#1 then .busError else .ok

/-- `TMR`, 2 bits. -/
def Timer.code : Timer → BitVec 2
  | .idle => 0#2
  | .running => 1#2
  | .done => 2#2

/-- `DECODE_SEL`, 1 bit. -/
def DecodeSel.code : DecodeSel → BitVec 1
  | .p0 => 0#1
  | .p1 => 1#1

/-- The bit of `DIAG` that index k names, counted in the port word `diag_o = DIAG[3] DIAG[2] DIAG[1]`
(10_state.md R33; DESIGN CHOICE, log 19: safe, a storage layout). -/
def DiagIndex.pos : DiagIndex → Nat
  | .d1 => 0
  | .d2 => 1
  | .d3 => 2

/-- The operand of `SETDIAG`: one bit set among bits 3 to 1, "bit k of `diag_o`" (41_gateways.md R107;
DESIGN CHOICE, log 14: safe). -/
def DiagIndex.operand (k : DiagIndex) : Nat := 2 ^ (k.pos + 1)

/-! ### Decoding -/

/-- Why a word is no operation of the block. -/
inductive Reject where
  /-- more than 79 bits: an extended or remote frame, "not representable" (30_encoding.md R78 (d)); safe -/
  | frameWiderThan79Bits
  /-- `dlc` code 9 to 15 (30_encoding.md R78 (a)); safe -/
  | reservedDataLength
  /-- a frame word the block never transmits (30_encoding.md R72); safe -/
  | notTheStatusFrame
  /-- a display operand of more than one byte (30_encoding.md R75); safe -/
  | displayByteWiderThan8Bits
  /-- a phase code above `0b1000` (30_encoding.md R78 (b)); safe -/
  | reservedPhaseCode
  /-- a request line that is not raised, or a value other than 1 on it (opcode_table.json REQ rows); safe -/
  | requestNotRaised
  /-- operand bits on an operation that has no operand; safe -/
  | operandOnPlainOperation
  /-- an output operand of more than 3 bits (opcode_table.json `SETOUT`: `IIV`); safe -/
  | outputOperandWiderThan3Bits
  /-- no index 1 to 3 (10_state.md R24: "The index 0 does not exist"); safe -/
  | noSuchDiagnosticOutput
  /-- neither half of `WAIT` (41_gateways.md R108); safe -/
  | noSuchWaitHalf
  /-- a pattern of more than 4 bits (40_codec.md R94); safe -/
  | patternWiderThan4Bits
  deriving DecidableEq, Repr

/-- A row of a classification list: the frame word under the mask, and the class it stands for. -/
structure FwRow where
  mask  : BitVec 79
  bits  : BitVec 79
  instr : Frame → Instr

/-- The first row of a list that matches (30_encoding.md R74: "first match wins"). -/
def firstMatch : List FwRow → BitVec 79 → Option Instr
  | [], _ => none
  | r :: rest, w => if w &&& r.mask = r.bits then some (r.instr (Frame.ofFW w)) else firstMatch rest w

/-- A frame word with the fields a classification looks at, its other bits zero (30_encoding.md R71). -/
def headWord (id : BitVec Config.idW) (dlc : BitVec 4) (p0 : Byte) : BitVec 79 := id ++ dlc ++ p0 ++ 0#56

/-- The row that compares the fields given and ignores the fields not given: the mask is all ones on the
former and zero elsewhere. -/
def fieldRow (id : Option (BitVec Config.idW)) (dlc : Option (BitVec 4)) (p0 : Option Byte)
    (instr : Frame → Instr) : FwRow where
  mask := headWord (if id.isSome then BitVec.allOnes _ else 0) (if dlc.isSome then BitVec.allOnes _ else 0)
    (if p0.isSome then BitVec.allOnes _ else 0)
  bits := headWord (id.getD 0) (dlc.getD 0) (p0.getD 0)
  instr := instr

/-- Classification on the loop path (30_encoding.md R73): "by one field only, `P[0]`". -/
def loopRows : List FwRow :=
  [ fieldRow none none (some Config.groupNibble) .rxGroup
  , fieldRow none none none .rxOther ]

/-- Classification on the validator path (30_encoding.md R74). -/
def validatorRows : List FwRow :=
  [ fieldRow (some Config.valId) (some Config.valLen) (some Config.valPayload) .valAccepted
  , fieldRow (some Config.valId) (some Config.valLen) none .valPayloadMismatch
  , fieldRow (some Config.valId) none none .valLengthMismatch
  , fieldRow none none none .valHeaderMismatch ]

/-- Mask and match of the transmitted frame (30_encoding.md R72). -/
def statusRow : FwRow :=
  fieldRow (some Config.groupId) (some (BitVec.ofNat 4 Config.statusLen)) (some Config.groupNibble) fun _ => .status

/-- The 79 bits of a frame word, where a word has no more. -/
def frameBits (n : Nat) : Except Reject (BitVec 79) :=
  if n < 2 ^ 79 then .ok (BitVec.ofNat 79 n) else .error .frameWiderThan79Bits

/-- A frame word classified by a list whose last row matches everything. -/
def classify (rows : List FwRow) (n : Nat) : Except Reject Instr :=
  match frameBits n with
  | .error e => .error e
  | .ok w =>
    match firstMatch rows w with
    | some i => .ok i
    | none => .error .notTheStatusFrame

/-- A frame word read as a frame register. -/
def frameOperand (op : Frame → Instr) (n : Nat) : Except Reject Instr :=
  match frameBits n with
  | .error e => .error e
  | .ok w => .ok (op (Frame.ofFW w))

/-- A frame word read as a bus frame; a reserved dataLength code "names no frame" (30_encoding.md R78 (a)). -/
def wireOperand (op : WireFrame → Instr) (n : Nat) : Except Reject Instr :=
  match frameBits n with
  | .error e => .error e
  | .ok w =>
    if (Frame.ofFW w).dlc.toNat ≤ Config.dlcMax then .ok (op (Frame.ofFW w).toWire)
    else .error .reservedDataLength

/-- A phase code (30_encoding.md R76). -/
def phaseInstr : Nat → Except Reject Instr
  | 0b0000 => .ok .txchk
  | 0b0001 => .ok .delay
  | 0b0010 => .ok .rxchk
  | 0b0011 => .ok .clr
  | 0b0100 => .ok .set0
  | 0b0101 => .ok .set1
  | 0b0110 => .ok .set2
  | 0b0111 => .ok .set3
  | 0b1000 => .ok .ack
  | _ => .error .reservedPhaseCode

/-- An operation that takes no operand bits. -/
def plain (i : Instr) (n : Nat) : Except Reject Instr :=
  if n = 0 then .ok i else .error .operandOnPlainOperation

/-- A request line (opcode_table.json: `val_req_i = 1`, `rst = 1`). -/
def request (i : Instr) (n : Nat) : Except Reject Instr :=
  if n = 1 then .ok i else .error .requestNotRaised

/-- The operand of `SETOUT`, `IIV`: index in bits 2:1, level in bit 0 (opcode_table.json). -/
def setoutOperand (n : Nat) : Except Reject Instr :=
  if n < 8 then .ok (.setout (BitVec.ofNat 2 (n / 2)) (n % 2 == 1)) else .error .outputOperandWiderThan3Bits

/-- The operand of `SETDIAG`. -/
def setdiagOperand : Nat → Except Reject Instr
  | 2 => .ok (.setdiag .d1)
  | 4 => .ok (.setdiag .d2)
  | 8 => .ok (.setdiag .d3)
  | _ => .error .noSuchDiagnosticOutput

/-- The operand of `WAIT`: `dly_start_o` in bit 0, `dly_done_i` in bit 1 (41_gateways.md R108;
DESIGN CHOICE, log 14: safe). -/
def waitOperand : Nat → Except Reject Instr
  | 1 => .ok (.wait .start)
  | 2 => .ok (.wait .done)
  | _ => .error .noSuchWaitHalf

/-- Decoding, total on every word. -/
def decode (w : IWord) : Except Reject Instr :=
  match w.sel with
  | .fwTx => classify [statusRow] w.bits
  | .fwRx => classify loopRows w.bits
  | .fwVal => classify validatorRows w.bits
  | .db8 => if w.bits < 256 then .ok (.dec (BitVec.ofNat 8 w.bits)) else .error .displayByteWiderThan8Bits
  | .ph4 => phaseInstr w.bits
  | .reqValidate => request .validate w.bits
  | .reqReset => request .reset w.bits
  | .reqDeliver => wireOperand .deliver w.bits
  | .primTransmit => wireOperand .transmit w.bits
  | .primPoll => plain .poll w.bits
  | .primClrpend => plain .clrpend w.bits
  | .primBtnrd => plain .btnrd w.bits
  | .primSetout => setoutOperand w.bits
  | .primClrout => plain .clrout w.bits
  | .primSetdiag => setdiagOperand w.bits
  | .primWait => waitOperand w.bits
  | .funcEnc => plain .enc w.bits
  | .funcGrpchk => frameOperand .grpchk w.bits
  | .funcSelbyte => frameOperand .selbyte w.bits
  | .funcPatbyte =>
    if w.bits < 16 then .ok (.patbyte (BitVec.ofNat Config.numOut w.bits)) else .error .patternWiderThan4Bits

/-! ### Encoding -/

/-- The word of an operation, from the same tables. -/
def encode : Instr → IWord
  | .status => { sel := .fwTx, bits := statusRow.bits.toNat }
  | .rxGroup f => { sel := .fwRx, bits := f.toFW.toNat }
  | .rxOther f => { sel := .fwRx, bits := f.toFW.toNat }
  | .valAccepted f => { sel := .fwVal, bits := f.toFW.toNat }
  | .valPayloadMismatch f => { sel := .fwVal, bits := f.toFW.toNat }
  | .valLengthMismatch f => { sel := .fwVal, bits := f.toFW.toNat }
  | .valHeaderMismatch f => { sel := .fwVal, bits := f.toFW.toNat }
  | .dec b => { sel := .db8, bits := b.toNat }
  | .txchk => { sel := .ph4, bits := Phase.txchk.code.toNat }
  | .delay => { sel := .ph4, bits := Phase.delay.code.toNat }
  | .rxchk => { sel := .ph4, bits := Phase.rxchk.code.toNat }
  | .clr => { sel := .ph4, bits := Phase.clr.code.toNat }
  | .set0 => { sel := .ph4, bits := Phase.set0.code.toNat }
  | .set1 => { sel := .ph4, bits := Phase.set1.code.toNat }
  | .set2 => { sel := .ph4, bits := Phase.set2.code.toNat }
  | .set3 => { sel := .ph4, bits := Phase.set3.code.toNat }
  | .ack => { sel := .ph4, bits := Phase.ack.code.toNat }
  | .validate => { sel := .reqValidate, bits := 1 }
  | .reset => { sel := .reqReset, bits := 1 }
  | .deliver f => { sel := .reqDeliver, bits := f.toFW.toNat }
  | .transmit f => { sel := .primTransmit, bits := f.toFW.toNat }
  | .poll => { sel := .primPoll, bits := 0 }
  | .clrpend => { sel := .primClrpend, bits := 0 }
  | .btnrd => { sel := .primBtnrd, bits := 0 }
  | .setout i v => { sel := .primSetout, bits := 2 * i.toNat + v.toNat }
  | .clrout => { sel := .primClrout, bits := 0 }
  | .setdiag k => { sel := .primSetdiag, bits := k.operand }
  | .wait .start => { sel := .primWait, bits := 1 }
  | .wait .done => { sel := .primWait, bits := 2 }
  | .enc => { sel := .funcEnc, bits := 0 }
  | .grpchk f => { sel := .funcGrpchk, bits := f.toFW.toNat }
  | .selbyte f => { sel := .funcSelbyte, bits := f.toFW.toNat }
  | .patbyte pat => { sel := .funcPatbyte, bits := pat.toNat }

/-- How many bits a word on a port has (30_encoding.md R71, R75, R76; opcode_table.json). -/
def Selector.width : Selector → Nat
  | .fwTx | .fwRx | .fwVal => 79
  | .db8 => 8
  | .ph4 => 4
  | .reqValidate | .reqReset => 1
  | .reqDeliver | .primTransmit => 79
  | .primPoll | .primClrpend | .primBtnrd | .primClrout => 0
  | .primSetout => 3
  | .primSetdiag => 4
  | .primWait => 2
  | .funcEnc => 0
  | .funcGrpchk | .funcSelbyte => 79
  | .funcPatbyte => 4

/-! ### Words of the opcode table, which carry no port -/

/-- The port a bare table word stands on. The table's rows of one width overlap, because on the hardware
the port tells them apart; a bare word is given to the row with the most mask bits that matches it
(DESIGN CHOICE, log 15: safe, no step reads a word this way). -/
def tableWord (nbits w : Nat) : IWord :=
  if nbits ≤ 8 then
    if w < 16 then { sel := .ph4, bits := w } else { sel := .db8, bits := w }
  else
    match decode { sel := .fwTx, bits := w }, decode { sel := .fwVal, bits := w } with
    | .ok _, _ => { sel := .fwTx, bits := w }
    | _, .ok (.valAccepted _) => { sel := .fwVal, bits := w }
    | _, .ok (.valPayloadMismatch _) => { sel := .fwVal, bits := w }
    | _, .ok (.valLengthMismatch _) => { sel := .fwVal, bits := w }
    | _, _ => { sel := .fwRx, bits := w }

/-- The instruction the decoder reads from a word numbered as spec/opcode_table.json numbers it. -/
def decodeTableWord (nbits w : Nat) : Option Instr := (decode (tableWord nbits w)).toOption

end Sys2Proof
end

