-- ==== Sys2Proof/Machine/State.lean ====
section
/-! DEFINITION. The state of the machine (10_state.md R20), the events of its trace (R34), the turns of
its agents (00_scope.md R12), the reasons a step can stop, and the state after reset. -/

namespace Sys2Proof.Machine

/-- The events (10_state.md R34: "No other event exists"). A frame on the bus is recorded with its
meaningful bytes, a polled frame with the whole slot copied (DESIGN CHOICE, log 18: safe). -/
inductive Event where
  /-- `BTNREAD(v)` -/
  | btnread (v : Bool)
  /-- `TX(f, r)` -/
  | tx (f : WireFrame) (r : TxAnswer)
  /-- `WAITSTART` -/
  | waitstart
  /-- `WAITDONE` -/
  | waitdone
  /-- `POLL(f)`, and `POLL(none)` -/
  | poll (m : Option Frame)
  /-- `CLROUT` -/
  | clrout
  /-- `SETOUT(i, v)` -/
  | setout (i : BitVec 2) (v : Bool)
  /-- `CLRPEND` -/
  | clrpend
  /-- `SETDIAG(k)` -/
  | setdiag (k : DiagIndex)
  /-- `VALRESULT(o)` -/
  | valresult (o : ValidationOutcome)
  /-- `DELIVER(f)` -/
  | deliver (f : WireFrame)
  /-- `RESET` -/
  | reset
  deriving DecidableEq, Repr

/-- The result of the last operation that returns one (DESIGN CHOICE, log 13: safe, nothing in the block
reads it). -/
inductive Ret where
  | nothing
  | frame (f : WireFrame)
  | pattern (pat : Pattern)
  | byte (b : Byte)
  | bit (v : Bool)
  | polled (m : Option Frame)
  | answer (r : TxAnswer)
  | outcome (o : ValidationOutcome)
  deriving DecidableEq, Repr

/-- One turn of an agent, or a draw supplied by the environment (00_scope.md R12; 30_encoding.md R82). -/
inductive Turn where
  /-- `CORE` takes the step its phase selects (`STEP`) -/
  | core
  /-- `BUS` presents a frame word for delivery (`RX`) -/
  | bus (fw : Nat)
  /-- the host demands one validation, the step of `VAL` (`VAL`) -/
  | val
  /-- the host resets the machine (`RESET`) -/
  | reset
  /-- the button level becomes v (`BTN v`) -/
  | btn (v : Bool)
  /-- the settle timer completes (`TMR`) -/
  | tmr
  /-- the answer the next transmit gets (`TXANS`) -/
  | answer (r : TxAnswer)
  /-- the bytes drawn beyond dataLength at the next delivery, in index order (`tail`) -/
  | tail (bs : List Byte)
  deriving DecidableEq, Repr

/-- The machine. The first nine fields are the whole state the spec gives it (10_state.md R20); the rest
are the model's own (log 1, 5, 6, 7, 8, 12, 13, 25). -/
structure State where
  /-- `PH`, the phase register (R21) -/
  ph : Phase
  /-- `FR`, the working frame register (R22) -/
  fr : Frame
  /-- `DISP`, bit i drives output i (R23) -/
  disp : Pattern
  /-- `DIAG`, bit k-1 is `DIAG[k]` (R24) -/
  diag : BitVec Config.numDiag
  /-- `TXERR` (R25) -/
  txerr : Bool
  /-- `SLOT`, the receive slot of the Bus Gateway (R26) -/
  slot : Frame
  /-- `RXPEND`, the frame pending condition (R27) -/
  rxpend : Bool
  /-- `TMR`, the settle timer (R28) -/
  tmr : Timer
  /-- `BTN`, the button level (R29) -/
  btn : Bool
  /-- the trace, oldest event first (R34) -/
  trace : List Event
  /-- what the last operation with a result returned -/
  ret : Ret
  /-- the OPEN parameter `DECODE_SEL` (00_scope.md R9); no step writes it -/
  decodeSel : DecodeSel
  /-- the OPEN parameter `FilterPass` (41_gateways.md R110), as the frames it stops; no step writes it -/
  filterStops : List WireFrame
  /-- the turns to come, next first -/
  agenda : List Turn
  /-- the supplied answer of the next transmit -/
  answer : Option TxAnswer
  /-- the supplied bytes beyond dataLength of the next delivery -/
  tail : List Byte
  /-- the index of the next free value -/
  draws : Nat
  deriving DecidableEq, Repr

/-- The faults of the machine: "Fault: none exists" (70_reset_and_hazards.md R183). -/
inductive Fault
  deriving DecidableEq, Repr

/-- Why the machine refuses. -/
inductive Refusal where
  /-- raised by `exec` for an instruction without a meaning yet; safe -/
  | notModelled (mnemonic : String)
  /-- raised by `step` for a word that is no operation; on a run, only a delivery that is not a Frame
  (70_reset_and_hazards.md R183); safe -/
  | rejectedWord (r : Reject)
  /-- raised by `DELIVER` and `TRANSMIT` given more than eight payload bytes, which is no Frame
  (30_encoding.md R70, 70_reset_and_hazards.md R183); safe -/
  | notAFrame
  deriving DecidableEq, Repr

/-- The machine right after reset. `PH`, `DISP`, `DIAG`, `TXERR`, `RXPEND` and `TMR` as 10_state.md R35 to
R37 give them, `DECODE_SEL` and `FilterPass` at the spec's defaults, the trace begun with `RESET`
(70_reset_and_hazards.md R170). `FR`, `SLOT` and `BTN` are unspecified (R38) and are zero here
(DESIGN CHOICE, log 9: unsafe); the model's own fields are empty (DESIGN CHOICE, log 2, 7, 8, 13, 25). -/
def State.reset : State where
  ph := .txchk
  fr := { id := 0#11, dlc := 0#4, p0 := 0#8, p1 := 0#8, p2 := 0#8, p3 := 0#8, p4 := 0#8, p5 := 0#8, p6 := 0#8, p7 := 0#8 }
  disp := 0b0000#4
  diag := 0b000#3
  txerr := false
  slot := { id := 0#11, dlc := 0#4, p0 := 0#8, p1 := 0#8, p2 := 0#8, p3 := 0#8, p4 := 0#8, p5 := 0#8, p6 := 0#8, p7 := 0#8 }
  rxpend := false
  tmr := .idle
  btn := false
  trace := [.reset]
  ret := .nothing
  decodeSel := .p1
  filterStops := []
  agenda := []
  answer := none
  tail := []
  draws := 0

end Sys2Proof.Machine
end

