-- ==== Sys2Proof/Machine/Flags.lean ====
section
/-! DEFINITION. The one-bit conditions and the output bits. The block has no condition codes
(10_state.md R31); what an operation computes bit by bit is the output latches and `TXERR`. -/

namespace Sys2Proof.Machine

/-- `DISP[i] <- v`, the other three bits kept (41_gateways.md R105). -/
def withOut (disp : Pattern) (i : BitVec 2) (v : Bool) : Pattern :=
  if v then disp ||| (1#4 <<< i.toNat) else disp &&& ~~~(1#4 <<< i.toNat)

/-- All four outputs off (41_gateways.md R106). -/
def allOff : Pattern := 0b0000#4

/-- `DIAG[k] <- 1`, the other two bits kept (41_gateways.md R107). -/
def withDiag (diag : BitVec Config.numDiag) (k : DiagIndex) : BitVec Config.numDiag := diag ||| (1#3 <<< k.pos)

/-- `DIAG[k]` (10_state.md R24). -/
def diagBit (diag : BitVec Config.numDiag) (k : DiagIndex) : Bool := diag.getLsbD k.pos

/-- `TXERR` after an answer: set by `BusError`, otherwise kept (10_state.md R25, 42_protocol_loop.md R121). -/
def withAnswer (txerr : Bool) (r : TxAnswer) : Bool :=
  match r with
  | .busError => true
  | .ok => txerr

end Sys2Proof.Machine
end

