-- ==== Sys2Proof/Machine/Operands.lean ====
section
/-! DEFINITION. The operand forms: the pure functions of the Frame Codec (40_codec.md), which form every
operand the loop uses, and the validator's tests of a frame's fields (43_validator.md). -/

namespace Sys2Proof.Machine

/-- `ENC` (40_codec.md R90): the status frame, the same for every press. -/
def enc : WireFrame :=
  { id := Config.groupId, data := [Config.groupNibble].take Config.statusLen }

/-- `DEC` (40_codec.md R91): `pat[i] = b[i]` for i = 0 to 3; bits 7 to 4 are ignored. -/
def dec (b : Byte) : Pattern := b.extractLsb' 0 Config.numOut

/-- `GRPCHK` (40_codec.md R92): the first byte compared whole with `GROUP_NIBBLE`, whatever `dlc` is. -/
def grpchk (f : Frame) : Bool := f.byte 0 == Config.groupNibble

/-- `SELBYTE` (40_codec.md R93). -/
def selbyte (sel : DecodeSel) (f : Frame) : Byte :=
  match sel with
  | .p1 => f.byte 1
  | .p0 => f.byte 0

/-- `PATBYTE` (40_codec.md R94). -/
def patbyte (pat : Pattern) : Byte := pat.setWidth 8

/-- The pattern the loop displays from its working frame: `DEC(SELBYTE(FR))` (42_protocol_loop.md R125). -/
def shown (s : State) : Pattern := dec (selbyte s.decodeSel s.fr)

/-- The validator's tests in their order: identifier, dataLength, first byte; the first that fails decides
(43_validator.md R141). -/
def outcomeOf (f : Frame) : ValidationOutcome :=
  if f.id ≠ Config.valId then .headerMismatch
  else if f.dlc ≠ Config.valLen then .lengthMismatch
  else if f.byte 0 ≠ Config.valPayload then .payloadMismatch
  else .accepted

/-- The diagnostic output an outcome drives (43_validator.md R142). -/
def outputOf (o : ValidationOutcome) : DiagIndex :=
  match o with
  | .headerMismatch => .d1
  | .lengthMismatch => .d2
  | .payloadMismatch => .d1
  | .accepted => .d3

/-- `FilterPass` (41_gateways.md R110): the frames the acceptance filter does not stop. -/
def filterPass (s : State) (f : WireFrame) : Bool := !s.filterStops.contains f

end Sys2Proof.Machine
end

