-- ==== Sys2Proof/Machine/Ops.lean ====
section
/-! DEFINITION. The shared operations: named updates of the state, the draws, and the gateway primitives
the meanings are built from (41_gateways.md). The block takes no trap (60_exceptions.md R157, R158),
so there is no exception entry and no return from one. -/

namespace Sys2Proof.Machine

/-! ### Named updates -/

/-- `emit E` appends event E to the trace (00_scope.md R14). -/
def State.emit (s : State) (e : Event) : State := { s with trace := s.trace ++ [e] }

/-- `PH <- phase`, the form `pc <- target` takes here (00_scope.md R14). -/
def State.goto (s : State) (p : Phase) : State := { s with ph := p }

/-- `FR <- f`. -/
def State.setFr (s : State) (f : Frame) : State := { s with fr := f }

/-- `DISP <- d`. -/
def State.setDisp (s : State) (d : Pattern) : State := { s with disp := d }

/-- `DIAG <- d`. -/
def State.setDiag (s : State) (d : BitVec Config.numDiag) : State := { s with diag := d }

/-- `TXERR <- v`. -/
def State.setTxerr (s : State) (v : Bool) : State := { s with txerr := v }

/-- `SLOT <- f`. -/
def State.setSlot (s : State) (f : Frame) : State := { s with slot := f }

/-- `RXPEND <- v`. -/
def State.setRxpend (s : State) (v : Bool) : State := { s with rxpend := v }

/-- `TMR <- v`. -/
def State.setTmr (s : State) (v : Timer) : State := { s with tmr := v }

/-- `BTN <- v`. -/
def State.setBtn (s : State) (v : Bool) : State := { s with btn := v }

/-- The operation returns v. -/
def State.setRet (s : State) (v : Ret) : State := { s with ret := v }

/-- The turns to come are replaced. -/
def State.setAgenda (s : State) (ts : List Turn) : State := { s with agenda := ts }

/-- The supplied transmit answer is replaced. -/
def State.setAnswer (s : State) (a : Option TxAnswer) : State := { s with answer := a }

/-- The supplied bytes of the next delivery are replaced. -/
def State.setTail (s : State) (bs : List Byte) : State := { s with tail := bs }

/-- n free values have been used. -/
def State.useDraws (s : State) (n : Nat) : State := { s with draws := s.draws + n }

/-! ### Draws (00_scope.md R14: "a free value of type T under no law") -/

/-- The answer of a transmit: the supplied one, else a free value (DESIGN CHOICE, log 7: safe). -/
def drawnAnswer (s : State) : TxAnswer := s.answer.getD (.ofCode (Config.freeTxErr s.draws))

/-- The byte at payload position j of a delivered frame, for a j that is not below the frame's dataLength
n: the supplied one, else a free value (DESIGN CHOICE, log 8: safe). -/
def drawnByte (s : State) (n : Nat) (j : Fin 8) : Byte :=
  (s.tail[j.val - n]?).getD (Config.freeByte (s.draws + j.val))

/-! ### Bus Gateway -/

/-- `TRANSMIT(f)` (41_gateways.md R100): the answer and the state after the call. -/
def transmit (f : WireFrame) (s : State) : TxAnswer × State :=
  (drawnAnswer s, ((s.setAnswer none).useDraws 1).emit (.tx f (drawnAnswer s)))

/-- `POLL()` (41_gateways.md R101): what it returns and the state after the call. -/
def poll (s : State) : Option Frame × State :=
  if s.rxpend then (some s.slot, s.emit (.poll (some s.slot))) else (none, s.emit (.poll none))

/-- `CLRPEND()` (41_gateways.md R102). -/
def clrpend (s : State) : State := (s.setRxpend false).emit .clrpend

/-- `DELIVER(f)` (41_gateways.md R103), for a frame that passes the filter. -/
def deliver (f : WireFrame) (s : State) : State :=
  ((((s.setSlot (f.toFrame (drawnByte s f.dataLength))).setRxpend true).setTail []).useDraws Config.payloadMax).emit (.deliver f)

/-! ### Input/Output Gateway -/

/-- `BTNRD()` (41_gateways.md R104): the level and the state after the call. -/
def btnrd (s : State) : Bool × State := (s.btn, s.emit (.btnread s.btn))

/-- `SETOUT(i, v)` (41_gateways.md R105). -/
def setout (i : BitVec 2) (v : Bool) (s : State) : State := (s.setDisp (withOut s.disp i v)).emit (.setout i v)

/-- `CLROUT()` (41_gateways.md R106). -/
def clrout (s : State) : State := (s.setDisp allOff).emit .clrout

/-- `SETDIAG(k)` (41_gateways.md R107). -/
def setdiag (k : DiagIndex) (s : State) : State := (s.setDiag (withDiag s.diag k)).emit (.setdiag k)

/-! ### Settle timer (41_gateways.md R108) -/

/-- `WAITSTART()`. -/
def waitStart (s : State) : State := (s.setTmr .running).emit .waitstart

/-- `WAITDONE()`, which "requires TMR == done". -/
def waitDone (s : State) : State := (s.setTmr .idle).emit .waitdone

/-- The step of the `TMR` agent, "enabled when TMR == running"; without effect otherwise (DESIGN CHOICE,
log 4: safe). -/
def timerStep (s : State) : State :=
  match s.tmr with
  | .running => s.setTmr .done
  | .idle => s
  | .done => s

/-! ### What several meanings share -/

/-- `r <- TRANSMIT(ENC()); if r == BusError: TXERR <- 1` (42_protocol_loop.md R121). -/
def sendStatus (s : State) : State :=
  (transmit enc s).2.setTxerr (withAnswer s.txerr (transmit enc s).1)

/-- `FR <- m; PH <- CLR`: a polled frame that passes the group check (42_protocol_loop.md R123). -/
def acceptFrame (m : Frame) (s : State) : State := (s.setFr m).goto .clr

/-- `FR <- m; PH <- ACK`: a polled frame that fails it (42_protocol_loop.md R123). -/
def discardFrame (m : Frame) (s : State) : State := (s.setFr m).goto .ack

/-- `pat <- DEC(SELBYTE(FR)); SETOUT(i, pat[i])` (42_protocol_loop.md R125 to R128). -/
def showBit (i : BitVec 2) (s : State) : State := setout i ((shown s).getLsbD i.toNat) s

/-- `SETDIAG(k); emit VALRESULT(o); return o` for the outcome o that drives output k (43_validator.md R141). -/
def report (o : ValidationOutcome) (s : State) : State :=
  ((setdiag (outputOf o) s).emit (.valresult o)).setRet (.outcome o)

end Sys2Proof.Machine
end

