-- ==== Sys2Proof/Machine/Codec.lean ====
section
/-! DEFINITION. The functions of the Frame Codec as operations of their own (40_codec.md): each "reads no
state, writes no state and emits no event"; its result is what it returns. -/

namespace Sys2Proof.Machine

/-- `ENC` (40_codec.md R90). -/
def execEnc (s : State) : Host.Outcome State Fault Refusal := .next (s.setRet (.frame enc))

/-- `DEC` (40_codec.md R91). -/
def execDec (b : Byte) (s : State) : Host.Outcome State Fault Refusal := .next (s.setRet (.pattern (dec b)))

/-- `GRPCHK` (40_codec.md R92). -/
def execGrpchk (f : Frame) (s : State) : Host.Outcome State Fault Refusal := .next (s.setRet (.bit (grpchk f)))

/-- `SELBYTE` (40_codec.md R93). -/
def execSelbyte (f : Frame) (s : State) : Host.Outcome State Fault Refusal :=
  .next (s.setRet (.byte (selbyte s.decodeSel f)))

/-- `PATBYTE` (40_codec.md R94). -/
def execPatbyte (pat : Pattern) (s : State) : Host.Outcome State Fault Refusal :=
  .next (s.setRet (.byte (patbyte pat)))

end Sys2Proof.Machine
end

