-- ==== Sys2Proof/Machine/FrameClass.lean ====
section
/-! DEFINITION. The frame words of the loop (30_encoding.md R72, R73): what the block does with the one
frame it sends, and with a polled frame of each class (DESIGN CHOICE, log 17: safe). -/

namespace Sys2Proof.Machine

/-- `STATUS`: the status frame is handed to the transmitter and its answer reported
(40_codec.md R90, 41_gateways.md R100, 42_protocol_loop.md R121). -/
def execStatus (s : State) : Host.Outcome State Fault Refusal := .next (sendStatus s)

/-- `RX.GROUP`: a polled frame accepted for decoding (42_protocol_loop.md R123). -/
def execRxGroup (f : Frame) (s : State) : Host.Outcome State Fault Refusal := .next (acceptFrame f s)

/-- `RX.OTHER`: a polled frame to discard; `ACK` still clears the pending condition (42_protocol_loop.md
R123, R129). -/
def execRxOther (f : Frame) (s : State) : Host.Outcome State Fault Refusal := .next (discardFrame f s)

end Sys2Proof.Machine
end

