-- ==== Sys2Proof/Machine/Gateway.lean ====
section
/-! DEFINITION. The gateway primitives as operations of their own, and the delivery of the bus
(41_gateways.md). -/

namespace Sys2Proof.Machine

/-- `TRANSMIT` (41_gateways.md R100). More than eight payload bytes are no Frame (30_encoding.md R70). -/
def execTransmit (f : WireFrame) (s : State) : Host.Outcome State Fault Refusal :=
  if f.wellFormed then .next ((transmit f s).2.setRet (.answer (transmit f s).1)) else .refused .notAFrame

/-- `POLL` (41_gateways.md R101). -/
def execPoll (s : State) : Host.Outcome State Fault Refusal := .next ((poll s).2.setRet (.polled (poll s).1))

/-- `CLRPEND` (41_gateways.md R102). -/
def execClrpend (s : State) : Host.Outcome State Fault Refusal := .next (clrpend s)

/-- `DELIVER` (41_gateways.md R103): refused at the boundary when it is no Frame (70_reset_and_hazards.md
R183); stopped by the acceptance filter without an effect on the block (R110; DESIGN CHOICE, log 6:
safe; the draws supplied for the stopped frame go with it). -/
def execDeliver (f : WireFrame) (s : State) : Host.Outcome State Fault Refusal :=
  if f.wellFormed then
    if filterPass s f then .next (deliver f s) else .next (s.setTail [])
  else .refused .notAFrame

/-- `BTNRD` (41_gateways.md R104). -/
def execBtnrd (s : State) : Host.Outcome State Fault Refusal := .next ((btnrd s).2.setRet (.bit (btnrd s).1))

/-- `SETOUT` (41_gateways.md R105). -/
def execSetout (i : BitVec 2) (v : Bool) (s : State) : Host.Outcome State Fault Refusal := .next (setout i v s)

/-- `CLROUT` (41_gateways.md R106). -/
def execClrout (s : State) : Host.Outcome State Fault Refusal := .next (clrout s)

/-- `SETDIAG` (41_gateways.md R107). -/
def execSetdiag (k : DiagIndex) (s : State) : Host.Outcome State Fault Refusal := .next (setdiag k s)

/-- `WAIT` (41_gateways.md R108): its first half starts the timer; its second half waits, the state
unchanged, until the timer is done (R109: "`WAITDONE` is the one hold"; log 3: safe). -/
def execWait (h : WaitHalf) (s : State) : Host.Outcome State Fault Refusal :=
  match h with
  | .start => .next (waitStart s)
  | .done => if s.tmr = .done then .next (waitDone s) else .next s

end Sys2Proof.Machine
end

