-- ==== Sys2Proof/Machine/Loop.lean ====
section
/-! DEFINITION. The nine phases of the Protocol Loop (42_protocol_loop.md). The phase register selects
which of them `CORE` takes (Machine/Fetch.lean); a meaning does not test it again (log 23: safe). -/

namespace Sys2Proof.Machine

/-- `TXCHK`, the transmit check (42_protocol_loop.md R121). -/
def execTxchk (s : State) : Host.Outcome State Fault Refusal :=
  if (btnrd s).1 then .next ((waitStart (sendStatus (btnrd s).2)).goto .delay)
  else .next ((btnrd s).2.goto .rxchk)

/-- `DELAY`, the settling delay (42_protocol_loop.md R122): held, the state unchanged, until the timer is
done (log 3: safe). -/
def execDelay (s : State) : Host.Outcome State Fault Refusal :=
  if s.tmr = .done then .next ((waitDone s).goto .rxchk) else .next s

/-- `RXCHK`, the receive check (42_protocol_loop.md R123). -/
def execRxchk (s : State) : Host.Outcome State Fault Refusal :=
  match (poll s).1 with
  | none => .next ((poll s).2.goto .txchk)
  | some m => if grpchk m then .next (acceptFrame m (poll s).2) else .next (discardFrame m (poll s).2)

/-- `CLR`, the clear of the four display outputs (42_protocol_loop.md R124). -/
def execClr (s : State) : Host.Outcome State Fault Refusal := .next ((clrout s).goto .set0)

/-- `SET0` (42_protocol_loop.md R125). -/
def execSet0 (s : State) : Host.Outcome State Fault Refusal := .next ((showBit 0#2 s).goto .set1)

/-- `SET1` (42_protocol_loop.md R126). -/
def execSet1 (s : State) : Host.Outcome State Fault Refusal := .next ((showBit 1#2 s).goto .set2)

/-- `SET2` (42_protocol_loop.md R127). -/
def execSet2 (s : State) : Host.Outcome State Fault Refusal := .next ((showBit 2#2 s).goto .set3)

/-- `SET3` (42_protocol_loop.md R128). -/
def execSet3 (s : State) : Host.Outcome State Fault Refusal := .next ((showBit 3#2 s).goto .ack)

/-- `ACK`, the release of the pending condition (42_protocol_loop.md R129). -/
def execAck (s : State) : Host.Outcome State Fault Refusal := .next ((clrpend s).goto .txchk)

end Sys2Proof.Machine
end

