-- ==== Sys2Proof/Machine/ResetOp.lean ====
section
/-! DEFINITION. The host's reset (70_reset_and_hazards.md R170). -/

namespace Sys2Proof.Machine

/-- `RESET`: the values of 10_state.md R35 to R37; `FR`, `SLOT` and `BTN` unspecified, so free values
(R38; log 10: safe). The build parameters, the trace and the turns to come are the environment's. -/
def resetRegisters (s : State) : State :=
  { s with
    ph := .txchk
    disp := allOff
    diag := 0b000#3
    txerr := false
    rxpend := false
    tmr := .idle
    fr := .ofFW (Config.freeFrameWord s.draws)
    slot := .ofFW (Config.freeFrameWord (s.draws + 1))
    btn := Config.freeBit s.draws
    draws := s.draws + 2 }

/-- `RESET` (70_reset_and_hazards.md R170). -/
def execReset (s : State) : Host.Outcome State Fault Refusal := .next ((resetRegisters s).emit .reset)

end Sys2Proof.Machine
end

