-- ==== Sys2Proof/Machine/Validator.lean ====
section
/-! DEFINITION. The Frame Validator (43_validator.md): `VALIDATE`, and the four classes of a frame on its
path (30_encoding.md R74). -/

namespace Sys2Proof.Machine

/-- `VALIDATE` (43_validator.md R141): the slot as it stands is classified, pending or not (R140). -/
def execValidate (s : State) : Host.Outcome State Fault Refusal := .next (report (outcomeOf s.slot) s)

/-- `VAL.ACCEPTED`: what a validation that reads a frame of this class does (43_validator.md R141). -/
def execValAccepted (_f : Frame) (s : State) : Host.Outcome State Fault Refusal := .next (report .accepted s)

/-- `VAL.PAYLOADMISMATCH` (43_validator.md R141). -/
def execValPayloadMismatch (_f : Frame) (s : State) : Host.Outcome State Fault Refusal :=
  .next (report .payloadMismatch s)

/-- `VAL.LENGTHMISMATCH` (43_validator.md R141). -/
def execValLengthMismatch (_f : Frame) (s : State) : Host.Outcome State Fault Refusal :=
  .next (report .lengthMismatch s)

/-- `VAL.HEADERMISMATCH` (43_validator.md R141). -/
def execValHeaderMismatch (_f : Frame) (s : State) : Host.Outcome State Fault Refusal :=
  .next (report .headerMismatch s)

end Sys2Proof.Machine
end

