-- ==== Sys2Proof/Machine/Dispatch.lean ====
section
/-! DEFINITION. One arm per operation. -/

namespace Sys2Proof.Machine

def exec (i : Instr) (s : State) : Host.Outcome State Fault Refusal :=
  match i with
  | .status => Sys2Proof.Machine.execStatus s
  | .rxGroup f => Sys2Proof.Machine.execRxGroup f s
  | .rxOther f => Sys2Proof.Machine.execRxOther f s
  | .valAccepted f => Sys2Proof.Machine.execValAccepted f s
  | .valPayloadMismatch f => Sys2Proof.Machine.execValPayloadMismatch f s
  | .valLengthMismatch f => Sys2Proof.Machine.execValLengthMismatch f s
  | .valHeaderMismatch f => Sys2Proof.Machine.execValHeaderMismatch f s
  | .dec b => Sys2Proof.Machine.execDec b s
  | .txchk => Sys2Proof.Machine.execTxchk s
  | .delay => Sys2Proof.Machine.execDelay s
  | .rxchk => Sys2Proof.Machine.execRxchk s
  | .clr => Sys2Proof.Machine.execClr s
  | .set0 => Sys2Proof.Machine.execSet0 s
  | .set1 => Sys2Proof.Machine.execSet1 s
  | .set2 => Sys2Proof.Machine.execSet2 s
  | .set3 => Sys2Proof.Machine.execSet3 s
  | .ack => Sys2Proof.Machine.execAck s
  | .validate => Sys2Proof.Machine.execValidate s
  | .reset => Sys2Proof.Machine.execReset s
  | .deliver f => Sys2Proof.Machine.execDeliver f s
  | .transmit f => Sys2Proof.Machine.execTransmit f s
  | .poll => Sys2Proof.Machine.execPoll s
  | .clrpend => Sys2Proof.Machine.execClrpend s
  | .btnrd => Sys2Proof.Machine.execBtnrd s
  | .setout k v => Sys2Proof.Machine.execSetout k v s
  | .clrout => Sys2Proof.Machine.execClrout s
  | .setdiag k => Sys2Proof.Machine.execSetdiag k s
  | .wait h => Sys2Proof.Machine.execWait h s
  | .enc => Sys2Proof.Machine.execEnc s
  | .grpchk f => Sys2Proof.Machine.execGrpchk f s
  | .selbyte f => Sys2Proof.Machine.execSelbyte f s
  | .patbyte pat => Sys2Proof.Machine.execPatbyte pat s

end Sys2Proof.Machine
end

