-- ==== Sys2Proof/Machine/Fetch.lean ====
section
/-! DEFINITION. Which agent moves next and which word selects its operation. The agents interleave freely
(00_scope.md R16, 60_exceptions.md R156): the order is data, the agenda of the state (DESIGN CHOICE, log 1:
safe, every finite interleaving is some agenda). -/

namespace Sys2Proof.Machine

/-- What a step is about to do. -/
inductive Fetched where
  /-- an agent of the block or its host runs the operation this word selects -/
  | run (w : IWord) (s : State)
  /-- the environment moved: a button, the timer, a supplied draw -/
  | moved (s : State)

/-- "while `TMR = running` the `CORE` agent has no step and is held" (42_protocol_loop.md R122). -/
def coreHeld (s : State) : Bool := s.ph == .delay && s.tmr == .running

/-- The turn to take and the state without it. With no turn listed, `CORE` moves, and where it is held the
timer does: a running timer completes (70_reset_and_hazards.md R181; DESIGN CHOICE, log 2: unsafe for a
claim that a run ends, safe otherwise). -/
def nextTurn (s : State) : Turn × State :=
  match s.agenda with
  | t :: rest => (t, s.setAgenda rest)
  | [] => (if coreHeld s then .tmr else .core, s)

/-- The word that selects `CORE`'s step: the code on the phase register (42_protocol_loop.md: "The selection of
the rule is by `PH` alone"). -/
def coreWord (s : State) : IWord := { sel := .ph4, bits := s.ph.code.toNat }

/-- What a turn does. -/
def takeTurn (t : Turn) (s : State) : Fetched :=
  match t with
  | .core => .run (coreWord s) s
  | .bus fw => .run { sel := .reqDeliver, bits := fw } s
  | .val => .run { sel := .reqValidate, bits := 1 } s
  | .reset => .run { sel := .reqReset, bits := 1 } s
  | .btn v => .moved (s.setBtn v)
  | .tmr => .moved (timerStep s)
  | .answer r => .moved (s.setAnswer (some r))
  | .tail bs => .moved (s.setTail bs)

/-- The next turn, fetched. -/
def fetch (s : State) : Fetched := takeTurn (nextTurn s).1 (nextTurn s).2

/-- The phase whose step is this operation. -/
def phaseOf (i : Instr) : Option Phase :=
  match i with
  | .txchk => some .txchk
  | .delay => some .delay
  | .rxchk => some .rxchk
  | .clr => some .clr
  | .set0 => some .set0
  | .set1 => some .set1
  | .set2 => some .set2
  | .set3 => some .set3
  | .ack => some .ack
  | .status | .rxGroup _ | .rxOther _ => none
  | .valAccepted _ | .valPayloadMismatch _ | .valLengthMismatch _ | .valHeaderMismatch _ => none
  | .validate | .reset | .deliver _ => none
  | .transmit _ | .poll | .clrpend | .btnrd | .setout _ _ | .clrout | .setdiag _ | .wait _ => none
  | .dec _ | .enc | .grpchk _ | .selbyte _ | .patbyte _ => none

/-- The operation a phase selects (30_encoding.md R76). -/
def instrOf (p : Phase) : Instr :=
  match p with
  | .txchk => .txchk
  | .delay => .delay
  | .rxchk => .rxchk
  | .clr => .clr
  | .set0 => .set0
  | .set1 => .set1
  | .set2 => .set2
  | .set3 => .set3
  | .ack => .ack

/-- A byte where the loop reads its display byte (40_codec.md R93). -/
def withDisplayByte (sel : DecodeSel) (fr : Frame) (b : Byte) : Frame :=
  match sel with
  | .p1 => { fr with p1 := b }
  | .p0 => { fr with p0 := b }

/-- A word put where the block will read it next (log 16): a phase code on `PH` (with the timer done for `DELAY`,
which R122 enables only then), the status frame behind a pressed button, a loop frame in the slot of a
pending receive check, a validator frame in the slot of a demanded validation, a display byte in the
working frame of `SET0`, and the button, bus and host operations on the agenda. A word that is no operation
has no such place, and an operation that is no step of its own runs only inside the step that calls it
(41_gateways.md: "A primitive is not a step of its own"). -/
def placeWord (w : IWord) (s : State) : State :=
  match decode w with
  | .error _ => s
  | .ok i =>
    match i with
    | .txchk => (s.goto .txchk).setAgenda (.core :: s.agenda)
    | .delay => ((s.goto .delay).setTmr .done).setAgenda (.core :: s.agenda)
    | .rxchk => (s.goto .rxchk).setAgenda (.core :: s.agenda)
    | .clr => (s.goto .clr).setAgenda (.core :: s.agenda)
    | .set0 => (s.goto .set0).setAgenda (.core :: s.agenda)
    | .set1 => (s.goto .set1).setAgenda (.core :: s.agenda)
    | .set2 => (s.goto .set2).setAgenda (.core :: s.agenda)
    | .set3 => (s.goto .set3).setAgenda (.core :: s.agenda)
    | .ack => (s.goto .ack).setAgenda (.core :: s.agenda)
    | .status => ((s.goto .txchk).setBtn true).setAgenda (.core :: s.agenda)
    | .rxGroup f => (((s.goto .rxchk).setSlot f).setRxpend true).setAgenda (.core :: s.agenda)
    | .rxOther f => (((s.goto .rxchk).setSlot f).setRxpend true).setAgenda (.core :: s.agenda)
    | .valAccepted f => (s.setSlot f).setAgenda (.val :: s.agenda)
    | .valPayloadMismatch f => (s.setSlot f).setAgenda (.val :: s.agenda)
    | .valLengthMismatch f => (s.setSlot f).setAgenda (.val :: s.agenda)
    | .valHeaderMismatch f => (s.setSlot f).setAgenda (.val :: s.agenda)
    | .dec b => ((s.goto .set0).setFr (withDisplayByte s.decodeSel s.fr b)).setAgenda (.core :: s.agenda)
    | .validate => s.setAgenda (.val :: s.agenda)
    | .reset => s.setAgenda (.reset :: s.agenda)
    | .deliver f => s.setAgenda (.bus f.toFW.toNat :: s.agenda)
    | .transmit _ | .poll | .clrpend | .btnrd | .setout _ _ | .clrout | .setdiag _ | .wait _ => s
    | .enc | .grpchk _ | .selbyte _ | .patbyte _ => s

end Sys2Proof.Machine
end

