-- ==== Sys2Proof/Machine/Step.lean ====
section
/-! DEFINITION. One step: the next turn is fetched, its word decoded, its operation executed
(00_scope.md R16). -/

namespace Sys2Proof.Machine

/-- A fetched turn carried out: a word decoded and executed, or the environment's move. -/
def run (c : Fetched) : Host.Outcome State Fault Refusal :=
  match c with
  | .moved s => .next s
  | .run w s =>
    match decode w with
    | .ok i => exec i s
    | .error r => .refused (.rejectedWord r)

/-- One step of the machine. -/
def step (s : State) : Host.Outcome State Fault Refusal := run (fetch s)

/-- The state with a word of spec/opcode_table.json put where the block reads it next (Fetch.lean). -/
def State.withFetchWord (s : State) (nbits w : Nat) : State := placeWord (tableWord nbits w) s

end Sys2Proof.Machine
end

