-- ==== Sys2Proof/Machine/Ports.lean ====
section
/-! DEFINITION. The ports of the block (10_state.md R33), a view of the state and of the events of a step.
"A model built on the step semantics needs none of them"; nothing in the machine reads this view. A
value the spec ties to an output strobe is absent while the strobe is 0 (DESIGN CHOICE, log 21: safe). `clk`,
the step clock, has no counterpart here. -/

namespace Sys2Proof.Machine

/-- What the input ports carry before a step. -/
structure PortsIn where
  /-- one level per button (00_scope.md R8: `NUM_BTN`) -/
  btn_i      : BitVec Config.numBtn
  rx_pend_i  : Bool
  rx_id_i    : BitVec Config.idW
  rx_dlc_i   : BitVec 4
  rx_data_i  : BitVec 64
  /-- the answer, sampled in the step of `tx_req_o`: 0 `Ok`, 1 `BusError`; no other step samples it -/
  tx_err_i   : BitVec 1
  dly_done_i : Bool
  rst        : Bool
  val_req_i  : Bool
  deriving DecidableEq, Repr

/-- `SLOT.P[0]` in bits 63:56 down to `SLOT.P[7]` in bits 7:0 (10_state.md R33). -/
def dataWord (g : Fin 8 → Byte) : BitVec 64 := g 0 ++ g 1 ++ g 2 ++ g 3 ++ g 4 ++ g 5 ++ g 6 ++ g 7

/-- The input ports of a state whose next turn is t. -/
def portsIn (t : Turn) (s : State) : PortsIn where
  btn_i := BitVec.ofBool s.btn
  rx_pend_i := s.rxpend
  rx_id_i := s.slot.id
  rx_dlc_i := s.slot.dlc
  rx_data_i := dataWord s.slot.byte
  tx_err_i := (drawnAnswer s).code
  dly_done_i := s.tmr == .done
  rst := t == .reset
  val_req_i := t == .val

/-- What the output ports carry in a step; a group under a strobe is `none` while its strobe is 0. -/
structure PortsOut where
  rx_clr_o    : Bool
  /-- `tx_id_o`, `tx_dlc_o`, `tx_data_o` under `tx_req_o` -/
  tx_o        : Option (BitVec Config.idW × BitVec 4 × BitVec 64)
  dly_start_o : Bool
  out_clr_o   : Bool
  /-- `out_idx_o`, `out_val_o` under `out_we_o` -/
  out_o       : Option (BitVec 2 × Bool)
  /-- `val_outcome_o` under `val_done_o` -/
  val_o       : Option (BitVec 2)
  disp_o      : Pattern
  diag_o      : BitVec Config.numDiag
  txerr_o     : Bool
  deriving DecidableEq, Repr

/-- No strobe raised, and the level outputs of a state. -/
def portsQuiet (s : State) : PortsOut where
  rx_clr_o := false
  tx_o := none
  dly_start_o := false
  out_clr_o := false
  out_o := none
  val_o := none
  disp_o := s.disp
  diag_o := s.diag
  txerr_o := s.txerr

/-- `tx_id_o`, `tx_dlc_o`, `tx_data_o` of a transmitted frame; data bits beyond its dataLength are free values
(30_encoding.md R72), drawn by the number n of events before the step. -/
def txPorts (n : Nat) (f : WireFrame) : BitVec Config.idW × BitVec 4 × BitVec 64 :=
  let r := f.toFrame fun j => Config.freeTxByte n j.val
  (r.id, r.dlc, dataWord r.byte)

/-- One event raises its strobe (10_state.md R33, the "carries" column). -/
def PortsOut.raise (n : Nat) (p : PortsOut) (e : Event) : PortsOut :=
  match e with
  | .btnread _ => p
  | .tx f _ => { p with tx_o := some (txPorts n f) }
  | .waitstart => { p with dly_start_o := true }
  | .waitdone => p
  | .poll _ => p
  | .clrout => { p with out_clr_o := true }
  | .setout i v => { p with out_o := some (i, v) }
  | .clrpend => { p with rx_clr_o := true }
  | .setdiag _ => p
  | .valresult o => { p with val_o := some o.code }
  | .deliver _ => p
  | .reset => p

/-- The output ports in the step from s to t. -/
def portsOut (s t : State) : PortsOut :=
  (t.trace.drop s.trace.length).foldl (PortsOut.raise s.trace.length) (portsQuiet t)

end Sys2Proof.Machine
end

