-- ==== Sys2Proof/Machine/Script.lean ====
section
/-! DEFINITION. The test-script notation (30_encoding.md R82): each command as turns of the agenda. `EXPECT`
states something about the state and is no turn. -/

namespace Sys2Proof.Machine

/-- A command of a script. -/
inductive Command where
  | reset
  | btn (v : Bool)
  | rx (f : WireFrame) (tail : List Byte)
  | txans (r : TxAnswer)
  | tmr
  | step (n : Nat)
  | val
  deriving DecidableEq, Repr

/-- The turns of a command. `tail` gives the drawn bytes beyond dataLength in index order; bytes it does
not give are free. -/
def Command.turns (c : Command) : List Turn :=
  match c with
  | .reset => [.reset]
  | .btn v => [.btn v]
  | .rx f bs => [.tail bs, .bus f.toFW.toNat]
  | .txans r => [.answer r]
  | .tmr => [.tmr]
  | .step n => List.replicate n .core
  | .val => [.val]

/-- A script in front of the turns to come. -/
def State.load (s : State) (cs : List Command) : State := s.setAgenda (cs.flatMap Command.turns ++ s.agenda)

end Sys2Proof.Machine
end

