-- ==== Sys2Proof/Safety.lean ====
section
/-! DEFINITION. What a safe run is: the invariants of the loop (70_reset_and_hazards.md R182: "an invariant
of every reachable state"), the order of events every trace follows (42_protocol_loop.md R120), and the
states a run reaches. -/

namespace Sys2Proof.Machine

/-! ### Runs -/

/-- The states some number of steps reach from s (00_scope.md R16). -/
inductive Reaches (s : State) : State → Prop where
  | here : Reaches s s
  | after {t u : State} : Reaches s t → step t = .next u → Reaches s u

/-- The turn a step takes. -/
def turnOf (s : State) : Turn := (nextTurn s).1

/-! ### Invariants over the registers -/

/-- The timer is in use exactly while the loop stands in `DELAY` (41_gateways.md R108). -/
abbrev TimerInv (s : State) : Prop := s.tmr ≠ .idle ↔ s.ph = .delay

/-- The phases between the poll of a frame and the release of it (42_protocol_loop.md R120). -/
def holdsFrame (p : Phase) : Bool :=
  match p with
  | .txchk | .delay | .rxchk => false
  | .clr | .set0 | .set1 | .set2 | .set3 | .ack => true

/-- A frame being processed is still pending: "Calling it with `RXPEND = 0` cannot happen under the rules"
(41_gateways.md R102). -/
abbrev PendingInv (s : State) : Prop := holdsFrame s.ph = true → s.rxpend = true

/-- While a pattern is written, the working frame is one that passed the group check, and the display shows
the bits written so far over all-off (70_reset_and_hazards.md R179). -/
abbrev DisplayInv (s : State) : Prop :=
  (s.ph = .clr → grpchk s.fr = true) ∧
  (s.ph = .set0 → grpchk s.fr = true ∧ s.disp = 0b0000#4) ∧
  (s.ph = .set1 → grpchk s.fr = true ∧ s.disp = shown s &&& 0b0001#4) ∧
  (s.ph = .set2 → grpchk s.fr = true ∧ s.disp = shown s &&& 0b0011#4) ∧
  (s.ph = .set3 → grpchk s.fr = true ∧ s.disp = shown s &&& 0b0111#4)

/-! ### The order of events -/

/-- Where the loop stands, told by its events alone. -/
inductive Spot where
  /-- the next `CORE` event is `BTNREAD` -/
  | top
  /-- the button was pressed: `TX` comes next -/
  | pressed
  /-- the frame was handed over: `WAITSTART` comes next -/
  | sent
  /-- the delay runs: `WAITDONE` comes next -/
  | waiting
  /-- the next `CORE` event is `POLL` -/
  | polling
  /-- frame f was accepted: `CLROUT` comes next -/
  | clearing (f : Frame)
  /-- `SETOUT(i, ...)` for frame f comes next -/
  | setting (i : BitVec 2) (f : Frame)
  /-- `CLRPEND` comes next -/
  | releasing
  /-- an order the rules do not allow -/
  | broken
  deriving DecidableEq, Repr

/-- An event of `CORE` (10_state.md R34; the others are of `BUS`, `VAL` and `HOST`). -/
def Event.ofCore (e : Event) : Bool :=
  match e with
  | .btnread _ | .tx _ _ | .waitstart | .waitdone | .poll _ | .clrout | .setout _ _ | .clrpend => true
  | .setdiag _ | .valresult _ | .deliver _ | .reset => false

/-- The phase graph of 42_protocol_loop.md R120 with the events of R121 to R129, read as an acceptor. What one
step emits stands together (20_memory.md R60: steps are atomic), so after `BTNREAD(1)` and after `TX` no event
of another agent may come; a broken order stays broken, whatever follows. -/
def Spot.after (sel : DecodeSel) (p : Spot) (e : Event) : Spot :=
  match p, e with
  | .broken, _ => .broken
  | .pressed, .tx f _ => if f = { id := 26#11, data := [10#8] } then .sent else .broken
  | .pressed, _ => .broken
  | .sent, .waitstart => .waiting
  | .sent, _ => .broken
  | _, .reset => .top
  | p, .deliver _ => p
  | p, .setdiag _ => p
  | p, .valresult _ => p
  | .top, .btnread true => .pressed
  | .top, .btnread false => .polling
  | .waiting, .waitdone => .polling
  | .polling, .poll none => .top
  | .polling, .poll (some f) => if f.p0 = 0x0A#8 then .clearing f else .releasing
  | .clearing f, .clrout => .setting 0#2 f
  | .setting i f, .setout j v =>
    if j = i ∧ v = (dec (selbyte sel f)).getLsbD i.toNat then
      if i = 3#2 then .releasing else .setting (i + 1#2) f
    else .broken
  | .releasing, .clrpend => .top
  | _, _ => .broken

/-- Where a trace leaves the loop. -/
def spotOf (sel : DecodeSel) (tr : List Event) : Spot := tr.foldl (Spot.after sel) .top

/-- Where the phase register says the loop stands, with the frame it works on. -/
def standsAt (p : Phase) (f : Frame) : Spot :=
  match p with
  | .txchk => .top
  | .delay => .waiting
  | .rxchk => .polling
  | .clr => .clearing f
  | .set0 => .setting 0#2 f
  | .set1 => .setting 1#2 f
  | .set2 => .setting 2#2 f
  | .set3 => .setting 3#2 f
  | .ack => .releasing

/-- The trace follows the phase graph and stands where the phase register does. -/
abbrev TraceInv (s : State) : Prop := spotOf s.decodeSel s.trace = standsAt s.ph s.fr

end Sys2Proof.Machine
end

