-- ==== Sys2Proof/Certificates/Slice0/Obligations.lean ====
section
/-! DEFINITION. The statements for the provers, rule by rule. A draw (a transmit's answer, a byte beyond
dataLength, the registers a reset leaves unspecified) appears as an existential or as a value of State's
own supply fields, so that each statement holds for every value of it. The fields `answer`, `tail`,
`draws`, `ret` and `agenda` are the model's own (NOTES.md). -/

open Sys2Proof Sys2Proof.Machine

/-! ### Encoding -/

/-- Every well-formed operation, all operands at every value, is decoded back from its word
(30_encoding.md sections 1 to 3; the words of the PRIM and FUNC rows are the model's, log 14). -/
def Obligations.DecodeInvertsEncode : Prop :=
  ∀ i : Instr, i.wellFormed = true → decode (encode i) = .ok i

/-- Whatever word the decoder accepts, what it gives is an operation of the block (30_encoding.md R70,
R73, R74). -/
def Obligations.DecodedInstructionsAreWellFormed : Prop :=
  ∀ (w : IWord) (i : Instr), decode w = .ok i → i.wellFormed = true

/-- 30_encoding.md R71: the places of the fields in the frame word, nothing else in it, and the rule's
example. -/
def Obligations.FrameWordPlacesEveryField : Prop :=
  (∀ f : Frame,
    f.toFW.extractLsb' 68 11 = f.id ∧ f.toFW.extractLsb' 64 4 = f.dlc ∧
    f.toFW.extractLsb' 56 8 = f.p0 ∧ f.toFW.extractLsb' 48 8 = f.p1 ∧
    f.toFW.extractLsb' 40 8 = f.p2 ∧ f.toFW.extractLsb' 32 8 = f.p3 ∧
    f.toFW.extractLsb' 24 8 = f.p4 ∧ f.toFW.extractLsb' 16 8 = f.p5 ∧
    f.toFW.extractLsb' 8 8 = f.p6 ∧ f.toFW.extractLsb' 0 8 = f.p7 ∧
    Frame.ofFW f.toFW = f) ∧
  (∀ w : BitVec 79, (Frame.ofFW w).toFW = w) ∧
  WireFrame.toFW { id := 0x123#11, data := [0x0A#8, 0x0D#8] } = 0x12320A0D000000000000#79

/-- 30_encoding.md R73: on the loop path the class of a frame is decided by its first byte alone, under
the rule's match and mask. -/
def Obligations.LoopClassIsDecidedByTheFirstByte : Prop :=
  ∀ f : Frame,
    decode { sel := .fwRx, bits := f.toFW.toNat } =
      .ok (if f.toFW &&& 0x0000FF00000000000000#79 = 0x00000A00000000000000#79 then .rxGroup f else .rxOther f) ∧
    (f.toFW &&& 0x0000FF00000000000000#79 = 0x00000A00000000000000#79 ↔ f.p0 = 0x0A#8)

/-- 30_encoding.md R74: the priority list of the validator path is the order of tests header, length,
payload. -/
def Obligations.ValidatorListIsTheOrderOfTests : Prop :=
  ∀ f : Frame,
    decode { sel := .fwVal, bits := f.toFW.toNat } =
      .ok (if f.toFW &&& 0x7FFFFF00000000000000#79 = 0x02610400000000000000#79 then .valAccepted f
        else if f.toFW &&& 0x7FFF0000000000000000#79 = 0x02610000000000000000#79 then .valPayloadMismatch f
        else if f.toFW &&& 0x7FF00000000000000000#79 = 0x02600000000000000000#79 then .valLengthMismatch f
        else .valHeaderMismatch f) ∧
    decode { sel := .fwVal, bits := f.toFW.toNat } =
      .ok (if f.id ≠ 0x026#11 then .valHeaderMismatch f
        else if f.dlc ≠ 1#4 then .valLengthMismatch f
        else if f.p0 ≠ 0x04#8 then .valPayloadMismatch f
        else .valAccepted f)

/-- 30_encoding.md R78 (a), (b), (d): reserved dataLength codes, phase codes and wider identifiers name
nothing. That a word for `TRANSMIT` is read as a frame word and so rejected rests on the model's own operand
layout and boundary (log 14, log 22). -/
def Obligations.ReservedWordsAreRejectedByName : Prop :=
  (∀ n : Nat, 9 ≤ n → decode { sel := .ph4, bits := n } = .error .reservedPhaseCode) ∧
  (∀ f : Frame, 9 ≤ f.dlc.toNat → decode { sel := .reqDeliver, bits := f.toFW.toNat } = .error .reservedDataLength) ∧
  (∀ f : Frame, 9 ≤ f.dlc.toNat → decode { sel := .primTransmit, bits := f.toFW.toNat } = .error .reservedDataLength) ∧
  (∀ n : Nat, 2 ^ 79 ≤ n → decode { sel := .reqDeliver, bits := n } = .error .frameWiderThan79Bits)

/-- Words written out from the spec's encodings decode to the operations they stand for (30_encoding.md
R72 to R76). -/
def Obligations.WordsWrittenOutDecode : Prop :=
  decode { sel := .ph4, bits := 0b0011 } = .ok .clr ∧
  decode { sel := .ph4, bits := 0b1000 } = .ok .ack ∧
  decode { sel := .db8, bits := 0x0D } = .ok (.dec 0x0D#8) ∧
  decode { sel := .fwTx, bits := 0x01A10A00000000000000 } = .ok .status ∧
  decode { sel := .reqDeliver, bits := 0x12320A0D000000000000 } =
    .ok (.deliver { id := 0x123#11, data := [0x0A#8, 0x0D#8] }) ∧
  decode { sel := .primSetout, bits := 0b101 } = .ok (.setout 2#2 true)

/-- 30_encoding.md R76: the codes of the enumerated values. -/
def Obligations.EnumerationCodes : Prop :=
  ValidationOutcome.headerMismatch.code = 0#2 ∧ ValidationOutcome.lengthMismatch.code = 1#2 ∧
  ValidationOutcome.payloadMismatch.code = 2#2 ∧ ValidationOutcome.accepted.code = 3#2 ∧
  TxAnswer.ok.code = 0#1 ∧ TxAnswer.busError.code = 1#1 ∧
  Phase.txchk.code = 0b0000#4 ∧ Phase.delay.code = 0b0001#4 ∧ Phase.rxchk.code = 0b0010#4 ∧
  Phase.clr.code = 0b0011#4 ∧ Phase.set0.code = 0b0100#4 ∧ Phase.set1.code = 0b0101#4 ∧
  Phase.set2.code = 0b0110#4 ∧ Phase.set3.code = 0b0111#4 ∧ Phase.ack.code = 0b1000#4 ∧
  Timer.idle.code = 0#2 ∧ Timer.running.code = 1#2 ∧ Timer.done.code = 2#2 ∧
  DecodeSel.p0.code = 0#1 ∧ DecodeSel.p1.code = 1#1

/-! ### Codec -/

/-- 40_codec.md R90: `ENC` returns `{26, 1, [10]}` in every state and changes nothing. -/
def Obligations.EncReturnsTheStatusFrame : Prop :=
  ∀ s : State,
    exec .enc s = .next { s with ret := .frame { id := 26#11, data := [10#8] } } ∧
    ∀ fill : Fin 8 → Byte,
      ((WireFrame.toFrame { id := 26#11, data := [10#8] } fill).toFW &&& 0x7FFFFF00000000000000#79) =
        0x01A10A00000000000000#79

/-- 40_codec.md R91: `DEC` returns the low four bits, bit i for output i, for every byte; the rule's corner
cases and its count of patterns are instances of the remainder. -/
def Obligations.DecTakesTheLowFourBits : Prop :=
  ∀ (b : Byte) (s : State), ∃ pat : BitVec 4,
    exec (.dec b) s = .next { s with ret := .pattern pat } ∧
    (∀ i, i < 4 → pat.getLsbD i = b.getLsbD i) ∧ pat.toNat = b.toNat % 16

/-- 40_codec.md R92: `GRPCHK` compares the whole first byte with 0x0A and reads nothing else. -/
def Obligations.GrpchkComparesTheWholeFirstByte : Prop :=
  ∀ (f : Frame) (s : State), exec (.grpchk f) s = .next { s with ret := .bit (decide (f.p0 = 0x0A#8)) }

/-- 40_codec.md R93: `SELBYTE` is byte 1 under `P1` and byte 0 under `P0`; of a frame that passed the group
check, `P0` always decodes to `1010`. -/
def Obligations.SelbyteFollowsDecodeSel : Prop :=
  ∀ (f : Frame) (s : State),
    (s.decodeSel = .p1 → exec (.selbyte f) s = .next { s with ret := .byte f.p1 }) ∧
    (s.decodeSel = .p0 → exec (.selbyte f) s = .next { s with ret := .byte f.p0 }) ∧
    (s.decodeSel = .p0 → f.p0 = 0x0A#8 → ∃ b, exec (.selbyte f) s = .next { s with ret := .byte b } ∧
      exec (.dec b) s = .next { s with ret := .pattern 0b1010#4 })

/-- 40_codec.md R94: `PATBYTE` widens the pattern, `DEC` brings it back, and the other way round holds only of
a byte below 16. -/
def Obligations.PatbyteIsInvertedByDec : Prop :=
  ∀ (pat : BitVec 4) (s : State),
    (∃ b : Byte, exec (.patbyte pat) s = .next { s with ret := .byte b } ∧
      (∀ i, i < 4 → b.getLsbD i = pat.getLsbD i) ∧ (∀ i, 4 ≤ i → b.getLsbD i = false) ∧
      exec (.dec b) s = .next { s with ret := .pattern pat }) ∧
    ∀ (b : Byte) (p : BitVec 4), exec (.dec b) s = .next { s with ret := .pattern p } →
      (exec (.patbyte p) s = .next { s with ret := .byte b } ↔ b.toNat < 16)

/-! ### Gateways -/

/-- 41_gateways.md R100: `TRANSMIT` records the frame with an answer, returns that answer, and writes no
register; the answer is the supplied one, and any value where none was supplied. The frame stands on the
transmit ports of the step (10_state.md R33), each meaningful byte in its place, and the answer on `tx_err_i`. -/
def Obligations.TransmitRecordsItsAnswer : Prop :=
  ∀ (f : WireFrame) (s : State), f.data.length ≤ 8 → ∃ (r : TxAnswer) (t : State),
    (∀ a, s.answer = some a → r = a) ∧
    (∀ turn, (portsIn turn s).tx_err_i = r.code) ∧
    exec (.transmit f) s = .next t ∧
    t = { s with ret := .answer r, answer := none, draws := s.draws + 1, trace := s.trace ++ [.tx f r] } ∧
    ∃ data : BitVec 64,
      portsOut s t = { portsQuiet t with tx_o := some (f.id, BitVec.ofNat 4 f.data.length, data) } ∧
      ∀ (j : Fin 8) (b : Byte), f.data[j.val]? = some b → data.extractLsb' (56 - 8 * j.val) 8 = b

/-- 41_gateways.md R101: `POLL` samples the receive ports, returns the whole slot where a frame is pending,
nothing otherwise, and neither consumes the frame nor clears the condition. -/
def Obligations.PollCopiesAPendingSlot : Prop :=
  ∀ s : State,
    (∀ turn, (portsIn turn s).rx_pend_i = s.rxpend ∧ (portsIn turn s).rx_id_i = s.slot.id ∧
      (portsIn turn s).rx_dlc_i = s.slot.dlc ∧
      ∀ j : Fin 8, (portsIn turn s).rx_data_i.extractLsb' (56 - 8 * j.val) 8 = s.slot.byte j) ∧
    (s.rxpend = true →
      exec .poll s = .next { s with ret := .polled (some s.slot), trace := s.trace ++ [.poll (some s.slot)] }) ∧
    (s.rxpend = false → exec .poll s = .next { s with ret := .polled none, trace := s.trace ++ [.poll none] })

/-- 41_gateways.md R102: `CLRPEND` clears the pending condition whatever it is, raises `rx_clr_o`, and the slot
keeps its content. -/
def Obligations.ClrpendClearsOnlyThePendingCondition : Prop :=
  ∀ s : State, ∃ t, exec .clrpend s = .next t ∧
    t = { s with rxpend := false, trace := s.trace ++ [.clrpend] } ∧
    portsOut s t = { portsQuiet t with rx_clr_o := true }

/-- 41_gateways.md R103: a delivery puts header and meaningful bytes in the slot and sets the pending
condition, whatever the phase and the condition were; bytes beyond dataLength are draws (the supplied
ones, any value where none was supplied), and nothing else of the machine changes. Nothing of the former
slot is read: whatever it held, the delivery is the same (20_memory.md R54: not "the previous frame's bytes"). -/
def Obligations.DeliverFillsTheSlot : Prop :=
  ∀ (f : WireFrame) (s : State), f.data.length ≤ 8 → f ∉ s.filterStops →
    ∃ (g : Frame) (n : Nat),
      exec (.deliver f) s =
        .next { s with slot := g, rxpend := true, tail := [], draws := n, trace := s.trace ++ [.deliver f] } ∧
      g.id = f.id ∧ g.dlc.toNat = f.data.length ∧
      (∀ j : Fin 8, ∀ b, f.data[j.val]? = some b → g.byte j = b) ∧
      (∀ j : Fin 8, f.data.length ≤ j.val → ∀ b, s.tail[j.val - f.data.length]? = some b → g.byte j = b) ∧
      ∀ x : Frame, exec (.deliver f) { s with slot := x } = exec (.deliver f) s

/-- What is no delivery: a frame the acceptance filter stops leaves the block as it was (41_gateways.md
R110; the model's reading, log 6), and what is no Frame is refused (70_reset_and_hazards.md R183; log 22). -/
def Obligations.DeliveryBoundary : Prop :=
  (∀ (f : WireFrame) (s : State), f.data.length ≤ 8 → f ∈ s.filterStops →
    exec (.deliver f) s = .next { s with tail := [] }) ∧
  (∀ (f : WireFrame) (s : State), 8 < f.data.length →
    exec (.deliver f) s = .refused .notAFrame ∧ exec (.transmit f) s = .refused .notAFrame)

/-- 41_gateways.md R104: `BTNRD` samples `btn_i`, returns the level and changes nothing; the `BTN` agent sets the
level at any time. -/
def Obligations.BtnrdReturnsTheLevel : Prop :=
  ∀ s : State,
    (∀ turn, (portsIn turn s).btn_i = BitVec.ofBool s.btn) ∧
    exec .btnrd s = .next { s with ret := .bit s.btn, trace := s.trace ++ [.btnread s.btn] } ∧
    ∀ (v : Bool) (rest : List Turn), s.agenda = .btn v :: rest → step s = .next { s with btn := v, agenda := rest }

/-- 41_gateways.md R105: `SETOUT(i, v)` writes bit i of the display, keeps the other three, and puts index and
level on the output ports. -/
def Obligations.SetoutWritesOneBit : Prop :=
  ∀ (i : BitVec 2) (v : Bool) (s : State), ∃ (d : BitVec 4) (t : State),
    exec (.setout i v) s = .next t ∧
    t = { s with disp := d, trace := s.trace ++ [.setout i v] } ∧
    (∀ j, j < 4 → d.getLsbD j = if j = i.toNat then v else s.disp.getLsbD j) ∧
    portsOut s t = { portsQuiet t with out_o := some (i, v) }

/-- 41_gateways.md R106: `CLROUT` turns all four outputs off in one event, raises `out_clr_o`, and `DIAG` is not
touched. -/
def Obligations.ClroutTurnsAllFourOff : Prop :=
  ∀ s : State, ∃ t, exec .clrout s = .next t ∧
    t = { s with disp := 0b0000#4, trace := s.trace ++ [.clrout] } ∧
    portsOut s t = { portsQuiet t with out_clr_o := true }

/-- 41_gateways.md R107: `SETDIAG(k)` lights diagnostic output k, on `diag_o` too, and clears none. -/
def Obligations.SetdiagLightsOneOutput : Prop :=
  ∀ (k : DiagIndex) (s : State), ∃ (d : BitVec 3) (t : State),
    exec (.setdiag k) s = .next t ∧
    t = { s with diag := d, trace := s.trace ++ [.setdiag k] } ∧
    (∀ j, diagBit d j = if j = k then true else diagBit s.diag j) ∧
    portsOut s t = portsQuiet t ∧ (portsOut s t).diag_o = d

/-- 41_gateways.md R108: `WAITSTART` starts the timer and raises `dly_start_o`, the `TMR` agent completes it, which
`dly_done_i` reports, and `WAITDONE`, which requires `TMR = done`, takes the end: the timer is idle again. -/
def Obligations.WaitHandshake : Prop :=
  ∀ s : State,
    (∃ t, exec (.wait .start) s = .next t ∧ t = { s with tmr := .running, trace := s.trace ++ [.waitstart] } ∧
      portsOut s t = { portsQuiet t with dly_start_o := true }) ∧
    (∀ rest : List Turn, s.agenda = .tmr :: rest → s.tmr = .running →
      step s = .next { s with tmr := .done, agenda := rest }) ∧
    (∀ turn, (portsIn turn s).dly_done_i = decide (s.tmr = .done)) ∧
    (s.tmr = .done → exec (.wait .done) s = .next { s with tmr := .idle, trace := s.trace ++ [.waitdone] })

/-! ### Frame classes -/

/-- `STATUS`: the status frame goes to the transmitter and a `BusError` answer is kept in `TXERR` (the meaning
of the row is the model's, log 17; 40_codec.md R90, 41_gateways.md R100, 42_protocol_loop.md R121). -/
def Obligations.StatusIsTransmitted : Prop :=
  ∀ s : State, ∃ r : TxAnswer,
    (∀ a, s.answer = some a → r = a) ∧
    exec .status s =
      .next { s with
        txerr := s.txerr || decide (r = .busError)
        answer := none
        draws := s.draws + 1
        trace := s.trace ++ [.tx { id := 26#11, data := [10#8] } r] }

/-- `RX.GROUP` and `RX.OTHER` (the meaning of the rows is the model's, log 17), and a receive check that finds
a frame does what the class of that frame does (30_encoding.md R73, 42_protocol_loop.md R123). -/
def Obligations.ReceiveCheckRunsTheClassOfTheFrame : Prop :=
  ∀ (f : Frame) (s : State),
    exec (.rxGroup f) s = .next { s with fr := f, ph := .clr } ∧
    exec (.rxOther f) s = .next { s with fr := f, ph := .ack } ∧
    (s.rxpend = true → ∃ i, decode { sel := .fwRx, bits := s.slot.toFW.toNat } = .ok i ∧
      exec .rxchk s = exec i { s with trace := s.trace ++ [.poll (some s.slot)] })

/-- The four `VAL` rows (the meaning of the rows is the model's, log 17), and a validation does what the class
of the frame in the slot does (30_encoding.md R74, 43_validator.md R141). -/
def Obligations.ValidationRunsTheClassOfTheSlot : Prop :=
  ∀ (f : Frame) (s : State),
    exec (.valHeaderMismatch f) s =
      .next { s with diag := s.diag ||| 0b001#3, ret := .outcome .headerMismatch
                     trace := s.trace ++ [.setdiag .d1, .valresult .headerMismatch] } ∧
    exec (.valLengthMismatch f) s =
      .next { s with diag := s.diag ||| 0b010#3, ret := .outcome .lengthMismatch
                     trace := s.trace ++ [.setdiag .d2, .valresult .lengthMismatch] } ∧
    exec (.valPayloadMismatch f) s =
      .next { s with diag := s.diag ||| 0b001#3, ret := .outcome .payloadMismatch
                     trace := s.trace ++ [.setdiag .d1, .valresult .payloadMismatch] } ∧
    exec (.valAccepted f) s =
      .next { s with diag := s.diag ||| 0b100#3, ret := .outcome .accepted
                     trace := s.trace ++ [.setdiag .d3, .valresult .accepted] } ∧
    ∃ i, decode { sel := .fwVal, bits := s.slot.toFW.toNat } = .ok i ∧ exec .validate s = exec i s

/-! ### Protocol Loop -/

/-- 42_protocol_loop.md R121: `TXCHK`. -/
def Obligations.TxchkSendsWhilePressed : Prop :=
  decode { sel := .ph4, bits := 0b0000 } = .ok .txchk ∧
  ∀ s : State,
    (s.btn = false → exec .txchk s = .next { s with ph := .rxchk, trace := s.trace ++ [.btnread false] }) ∧
    (s.btn = true → ∃ r : TxAnswer,
      (∀ a, s.answer = some a → r = a) ∧
      exec .txchk s =
        .next { s with
          ph := .delay
          tmr := .running
          txerr := s.txerr || decide (r = .busError)
          answer := none
          draws := s.draws + 1
          trace := s.trace ++ [.btnread true, .tx { id := 26#11, data := [10#8] } r, .waitstart] })

/-- `DELAY` waits for the timer, the state unchanged while it runs (the model's form of the hold, log 3), and then
goes on to the receive check (42_protocol_loop.md R122, 41_gateways.md R108). -/
def Obligations.DelayWaitsForTheTimer : Prop :=
  decode { sel := .ph4, bits := 0b0001 } = .ok .delay ∧
  ∀ s : State,
    (s.tmr = .done → exec .delay s = .next { s with ph := .rxchk, tmr := .idle, trace := s.trace ++ [.waitdone] }) ∧
    (s.tmr = .running → exec .delay s = .next s ∧
      ∀ rest : List Turn, s.agenda = .tmr :: rest → step s = .next { s with tmr := .done, agenda := rest })

/-- 42_protocol_loop.md R123: `RXCHK`. -/
def Obligations.RxchkPollsAndChecks : Prop :=
  decode { sel := .ph4, bits := 0b0010 } = .ok .rxchk ∧
  ∀ s : State,
    (s.rxpend = false → exec .rxchk s = .next { s with ph := .txchk, trace := s.trace ++ [.poll none] }) ∧
    (s.rxpend = true → s.slot.p0 = 0x0A#8 →
      exec .rxchk s = .next { s with fr := s.slot, ph := .clr, trace := s.trace ++ [.poll (some s.slot)] }) ∧
    (s.rxpend = true → s.slot.p0 ≠ 0x0A#8 →
      exec .rxchk s = .next { s with fr := s.slot, ph := .ack, trace := s.trace ++ [.poll (some s.slot)] })

/-- 42_protocol_loop.md R124: `CLR`. -/
def Obligations.ClrClearsTheDisplay : Prop :=
  decode { sel := .ph4, bits := 0b0011 } = .ok .clr ∧
  ∀ s : State, exec .clr s = .next { s with disp := 0b0000#4, ph := .set0, trace := s.trace ++ [.clrout] }

/-- The byte the loop displays: `FR.P[1]` or `FR.P[0]` as `DECODE_SEL` says (40_codec.md R93). -/
def Sys2Proof.Machine.displayed (s : State) : Byte := if s.decodeSel = .p1 then s.fr.p1 else s.fr.p0

/-- One `SET` phase: bit i of the display becomes bit i of the displayed byte, the call is recorded whether
the bit is 1 or 0, and the loop goes on to p. -/
def Sys2Proof.Machine.WritesBit (i : Instr) (k : BitVec 2) (p : Phase) (s : State) : Prop :=
  ∃ d : BitVec 4,
    exec i s = .next { s with
      disp := d
      ph := p
      trace := s.trace ++ [.setout k ((displayed s).getLsbD k.toNat)] } ∧
    ∀ j, j < 4 → d.getLsbD j = if j = k.toNat then (displayed s).getLsbD j else s.disp.getLsbD j

/-- 42_protocol_loop.md R125, R126, R127: `SET0`, `SET1`, `SET2`. -/
def Obligations.SetPhasesWriteOneBitEach : Prop :=
  decode { sel := .ph4, bits := 0b0100 } = .ok .set0 ∧
  decode { sel := .ph4, bits := 0b0101 } = .ok .set1 ∧
  decode { sel := .ph4, bits := 0b0110 } = .ok .set2 ∧
  ∀ s : State,
    WritesBit .set0 0#2 .set1 s ∧ WritesBit .set1 1#2 .set2 s ∧ WritesBit .set2 2#2 .set3 s

/-- 42_protocol_loop.md R128: `SET3`, after which the display shows the whole pattern, in every state in which
the phases before it have written their bits. -/
def Obligations.SetThreeCompletesThePattern : Prop :=
  decode { sel := .ph4, bits := 0b0111 } = .ok .set3 ∧
  ∀ s : State,
    WritesBit .set3 3#2 .ack s ∧
    (DisplayInv s → s.ph = .set3 → ∃ t, exec .set3 s = .next t ∧
      ∀ i, i < 4 → t.disp.getLsbD i = (displayed s).getLsbD i)

/-- 42_protocol_loop.md R129: `ACK` releases the pending condition; it is reached from a receive check that
discards the frame or from `SET3`, and from nowhere else. -/
def Obligations.AckReleasesTheFrame : Prop :=
  decode { sel := .ph4, bits := 0b1000 } = .ok .ack ∧
  (∀ s : State, exec .ack s = .next { s with rxpend := false, ph := .txchk, trace := s.trace ++ [.clrpend] }) ∧
  ∀ s t : State, step s = .next t → s.ph ≠ .ack → t.ph = .ack →
    turnOf s = .core ∧ ((s.ph = .rxchk ∧ s.rxpend = true ∧ s.slot.p0 ≠ 0x0A#8) ∨ s.ph = .set3)

/-- The pattern a frame shows, bit by bit (40_codec.md R91, R93). -/
def Sys2Proof.Machine.patternBit (sel : DecodeSel) (f : Frame) (i : Nat) : Bool :=
  (if sel = .p1 then f.p1 else f.p0).getLsbD i

/-- The outputs written for a frame that passed the group check, in their order (42_protocol_loop.md R130). -/
def Sys2Proof.Machine.writesFor (sel : DecodeSel) (f : Frame) : List Event :=
  [.clrout, .setout 0#2 (patternBit sel f 0), .setout 1#2 (patternBit sel f 1), .setout 2#2 (patternBit sel f 2),
   .setout 3#2 (patternBit sel f 3)]

/-- 42_protocol_loop.md R130 over consecutive `CORE` steps: from the receive check that polls frame f to the end
of the iteration, the events and the whole state it leaves. -/
def Obligations.IterationOfAPolledFrame : Prop :=
  ∀ (s : State) (rest : List Turn), s.ph = .rxchk → s.rxpend = true →
    (s.slot.p0 ≠ 0x0A#8 → s.agenda = List.replicate 2 .core ++ rest →
      Sys2Proof.core.run 2 s = .next { s with
        fr := s.slot
        rxpend := false
        ph := .txchk
        agenda := rest
        trace := s.trace ++ [.poll (some s.slot), .clrpend] }) ∧
    (s.slot.p0 = 0x0A#8 → s.agenda = List.replicate 7 .core ++ rest → ∃ d : BitVec 4,
      (∀ i, i < 4 → d.getLsbD i = patternBit s.decodeSel s.slot i) ∧
      Sys2Proof.core.run 7 s = .next { s with
        fr := s.slot
        disp := d
        rxpend := false
        ph := .txchk
        agenda := rest
        trace := s.trace ++ .poll (some s.slot) :: (writesFor s.decodeSel s.slot ++ [.clrpend]) })

/-- The events of R130 whatever other agents do in between: in a trace that follows the phase graph, between
the poll of a frame and the release of it `CORE` writes the five output events of an accepted frame, and
none for any other. -/
def Obligations.OutputsBetweenPollAndRelease : Prop :=
  ∀ (s : State) (a b c : List Event) (f : Frame), TraceInv s →
    s.trace = a ++ .poll (some f) :: (b ++ .clrpend :: c) → .clrpend ∉ b → .reset ∉ b →
    b.filter Event.ofCore = if f.p0 = 0x0A#8 then writesFor s.decodeSel f else []

/-- 42_protocol_loop.md R131 for every trace that follows the phase graph, whatever other agents do: a
transmit carries the status frame, stands right after a button read of 1 and right before a `WAITSTART`; after
that, until a reset, no `CORE` event comes before `WAITDONE`. -/
def Obligations.TransmitIsFollowedByItsDelay : Prop :=
  ∀ (s : State) (a b : List Event) (f : WireFrame) (r : TxAnswer), TraceInv s → s.trace = a ++ .tx f r :: b →
    f = { id := 26#11, data := [10#8] } ∧ (∃ a', a = a' ++ [.btnread true]) ∧
    ∃ b', b = .waitstart :: b' ∧ ∀ c d, b' = c ++ d → .reset ∉ c →
      c.filter Event.ofCore = [] ∨ ∃ rest, c.filter Event.ofCore = .waitdone :: rest

/-- The edges of the phase graph of 42_protocol_loop.md R120, each with its condition. -/
def Sys2Proof.Machine.GraphEdge (s : State) (p : Phase) : Prop :=
  (s.ph = .txchk ∧ s.btn = false ∧ p = .rxchk) ∨ (s.ph = .txchk ∧ s.btn = true ∧ p = .delay) ∨
  (s.ph = .delay ∧ s.tmr = .done ∧ p = .rxchk) ∨ (s.ph = .rxchk ∧ s.rxpend = false ∧ p = .txchk) ∨
  (s.ph = .rxchk ∧ s.rxpend = true ∧ s.slot.p0 ≠ 0x0A#8 ∧ p = .ack) ∨
  (s.ph = .rxchk ∧ s.rxpend = true ∧ s.slot.p0 = 0x0A#8 ∧ p = .clr) ∨
  (s.ph = .clr ∧ p = .set0) ∨ (s.ph = .set0 ∧ p = .set1) ∨ (s.ph = .set1 ∧ p = .set2) ∨
  (s.ph = .set2 ∧ p = .set3) ∨ (s.ph = .set3 ∧ p = .ack) ∨ (s.ph = .ack ∧ p = .txchk)

/-- How many `CORE` steps an iteration from the top takes. -/
def Sys2Proof.Machine.iterationSteps (s : State) : Nat :=
  (if s.btn then 3 else 2) + (if s.rxpend then (if s.slot.p0 = 0x0A#8 then 6 else 1) else 0)

/-- 42_protocol_loop.md R120: the phase moves only along an edge of the graph, in a `CORE` step, or by a reset; an
edge leaves every phase; and from the top, with no other agent moving but the timer, the loop is back at the top
after the 2 to 9 `CORE` steps of its iteration, and not before. -/
def Obligations.IterationFollowsThePhaseGraph : Prop :=
  (∀ s t : State, step s = .next t → t.ph ≠ s.ph →
    (turnOf s = .core ∧ GraphEdge s t.ph) ∨ (turnOf s = .reset ∧ t.ph = .txchk)) ∧
  (∀ s : State, (s.ph = .delay → s.tmr = .done) → ∃ p, GraphEdge s p) ∧
  ∀ (s : State) (n : Nat) (rest : List Turn), s.ph = .txchk → iterationSteps s = n + 1 →
    s.agenda = .core :: ((if s.btn then [Turn.tmr] else []) ++ List.replicate n .core ++ rest) →
    ∃ t, Sys2Proof.core.run (n + (if s.btn then 2 else 1)) s = .next t ∧
      t.ph = .txchk ∧ t.agenda = rest ∧ t.rxpend = false ∧
      ∀ m u, 0 < m → m < n + (if s.btn then 2 else 1) → Sys2Proof.core.run m s = .next u → u.ph ≠ .txchk

/-- What 42_protocol_loop.md R122 and R133 say of the hold, in the model's form of it (a held step leaves the state
unchanged, log 3): where the timer is in use only in `DELAY`, `CORE` always has a next step that moves the phase, but
for the hold, and the timer lifts the hold; `WAITDONE` holds in the same way until the timer is done. -/
def Obligations.CoreIsHeldOnlyByTheTimer : Prop :=
  ∀ s : State,
    (TimerInv s → ∃ t, exec (instrOf s.ph) s = .next t ∧
      (t.ph ≠ s.ph ∨ (s.ph = .delay ∧ s.tmr = .running ∧ t = s ∧
        ∀ rest, s.agenda = .tmr :: .core :: rest →
          ∃ u, Sys2Proof.core.run 2 s = .next u ∧ u.ph = .rxchk ∧ u.tmr = .idle ∧ u.agenda = rest))) ∧
    (s.tmr ≠ .done → exec (.wait .done) s = .next s)

/-! ### Frame Validator -/

/-- 43_validator.md R141 and R142: the tests in their order, the output each outcome drives, its events, its code,
and nothing else written. -/
def Obligations.ValidateClassifiesTheSlot : Prop :=
  (ValidationOutcome.headerMismatch.code = 0#2 ∧ ValidationOutcome.lengthMismatch.code = 1#2 ∧
    ValidationOutcome.payloadMismatch.code = 2#2 ∧ ValidationOutcome.accepted.code = 3#2) ∧
  ∀ s : State,
    (s.slot.id ≠ 0x026#11 →
      exec .validate s = .next { s with
        diag := s.diag ||| 0b001#3, ret := .outcome .headerMismatch
        trace := s.trace ++ [.setdiag .d1, .valresult .headerMismatch] }) ∧
    (s.slot.id = 0x026#11 → s.slot.dlc ≠ 1#4 →
      exec .validate s = .next { s with
        diag := s.diag ||| 0b010#3, ret := .outcome .lengthMismatch
        trace := s.trace ++ [.setdiag .d2, .valresult .lengthMismatch] }) ∧
    (s.slot.id = 0x026#11 → s.slot.dlc = 1#4 → s.slot.p0 ≠ 0x04#8 →
      exec .validate s = .next { s with
        diag := s.diag ||| 0b001#3, ret := .outcome .payloadMismatch
        trace := s.trace ++ [.setdiag .d1, .valresult .payloadMismatch] }) ∧
    (s.slot.id = 0x026#11 → s.slot.dlc = 1#4 → s.slot.p0 = 0x04#8 →
      exec .validate s = .next { s with
        diag := s.diag ||| 0b100#3, ret := .outcome .accepted
        trace := s.trace ++ [.setdiag .d3, .valresult .accepted] })

/-- One validation after another, each of the frame that stands in the slot then. -/
def Sys2Proof.Machine.validateEach (s : State) (fs : List Frame) : Host.Outcome State Fault Refusal :=
  match fs with
  | [] => .next s
  | f :: rest =>
    match exec .validate { s with slot := f } with
    | .next t => validateEach t rest
    | .fault r => .fault r
    | .refused r => .refused r

/-- The output a frame's validation drives, by the tests of 43_validator.md R141. -/
def Sys2Proof.Machine.drives (f : Frame) : DiagIndex :=
  if f.id ≠ 0x026#11 then .d1 else if f.dlc ≠ 1#4 then .d2 else if f.p0 ≠ 0x04#8 then .d1 else .d3

/-- 43_validator.md R143: after any sequence of validations `DIAG[k] = 1` exactly when it was 1 before or one of
them drove output k. -/
def Obligations.DiagnosticsAccumulate : Prop :=
  ∀ (fs : List Frame) (s : State), ∃ t, validateEach s fs = .next t ∧
    ∀ k, diagBit t.diag k = (diagBit s.diag k || fs.any fun f => decide (drives f = k))

/-- 43_validator.md R144: a validation writes none of the loop's or the gateway's registers, so the slot may be
validated again with the same outcome. -/
def Obligations.ValidateTouchesOnlyDiagnostics : Prop :=
  ∀ s : State, ∃ t o, exec .validate s = .next t ∧ t.ret = .outcome o ∧
    t.ph = s.ph ∧ t.fr = s.fr ∧ t.disp = s.disp ∧ t.txerr = s.txerr ∧ t.tmr = s.tmr ∧ t.slot = s.slot ∧
    t.rxpend = s.rxpend ∧ t.btn = s.btn ∧
    ∀ u, u.slot = s.slot → ∃ v, exec .validate u = .next v ∧ v.ret = .outcome o

/-- 20_memory.md R60: "where a `VAL` step stands among `CORE` steps changes nothing" but the order of the
events: validation and loop step, in either order, leave the same registers. -/
def Obligations.ValidationCommutesWithTheLoop : Prop :=
  ∀ (s : State) (p : Phase), ∃ (t u v w : State) (es vs : List Event),
    exec .validate s = .next t ∧ exec (instrOf p) t = .next u ∧
    exec (instrOf p) s = .next v ∧ exec .validate v = .next w ∧
    u.trace = s.trace ++ (vs ++ es) ∧ w.trace = s.trace ++ (es ++ vs) ∧
    { u with trace := [] } = { w with trace := [] }

/-- 70_reset_and_hazards.md R178: what each test accepts; no frame passes both; and the status frame passes the
loop's and is `HeaderMismatch` for the validator, whatever its bytes beyond dataLength. -/
def Obligations.NoFramePassesBothTests : Prop :=
  (∀ (f : Frame) (s : State), ∃ t o,
    exec (.grpchk f) s = .next { s with ret := .bit (decide (f.p0 = 0x0A#8)) } ∧
    exec .validate { s with slot := f } = .next t ∧ t.ret = .outcome o ∧
    (o = .accepted ↔ f.id = 0x026#11 ∧ f.dlc = 1#4 ∧ f.p0 = 0x04#8) ∧ ¬ (f.p0 = 0x0A#8 ∧ o = .accepted)) ∧
  (∀ (s : State) (fill : Fin 8 → Byte),
    exec (.grpchk (WireFrame.toFrame { id := 26#11, data := [10#8] } fill)) s = .next { s with ret := .bit true } ∧
    ∃ t, exec .validate { s with slot := WireFrame.toFrame { id := 26#11, data := [10#8] } fill } = .next t ∧
      t.ret = .outcome .headerMismatch)

/-! ### Reset -/

/-- 10_state.md R35, R36, R37: the registers right after reset. -/
def Obligations.ResetState : Prop :=
  State.reset.ph = .txchk ∧ State.reset.disp = 0b0000#4 ∧ State.reset.diag = 0b000#3 ∧
  State.reset.rxpend = false ∧ State.reset.txerr = false ∧ State.reset.tmr = .idle

/-- 70_reset_and_hazards.md R170: `RESET` from any state; `FR`, `SLOT` and `BTN` are left unspecified; the step
after it is a `TXCHK`; a run's trace begins with `RESET`. The model's own fields are kept (log 10). -/
def Obligations.ResetRestartsTheBlock : Prop :=
  decode { sel := .reqReset, bits := 1 } = .ok .reset ∧ State.reset.trace = [.reset] ∧
  ∀ s : State, ∃ (fr slot : Frame) (btn : Bool) (n : Nat),
    exec .reset s = .next { s with
      ph := .txchk, disp := 0b0000#4, diag := 0b000#3, txerr := false, rxpend := false, tmr := .idle
      fr := fr, slot := slot, btn := btn, draws := n
      trace := s.trace ++ [.reset] }

/-! ### The whole machine -/

/-- A step runs the decoded instruction: each agent's turn presents its word (10_state.md R21, 30_encoding.md
R76, opcode_table.json REQ rows), and the step is `exec` of what that word decodes to, on the state without
the turn. Without a listed turn `CORE` moves, unless it is held (log 2). -/
def Obligations.StepRunsTheDecodedInstruction : Prop :=
  ∀ (s : State) (rest : List Turn) (i : Instr),
    (s.agenda = .core :: rest → decode { sel := .ph4, bits := s.ph.code.toNat } = .ok i →
      step s = exec i { s with agenda := rest }) ∧
    (s.agenda = [] → ¬ (s.ph = .delay ∧ s.tmr = .running) →
      decode { sel := .ph4, bits := s.ph.code.toNat } = .ok i → step s = exec i s) ∧
    (∀ fw, s.agenda = .bus fw :: rest → decode { sel := .reqDeliver, bits := fw } = .ok i →
      step s = exec i { s with agenda := rest }) ∧
    (s.agenda = .val :: rest → step s = exec .validate { s with agenda := rest }) ∧
    (s.agenda = .reset :: rest → step s = exec .reset { s with agenda := rest })

/-- The environment's turns (00_scope.md R12; 30_encoding.md R82 for the supplied draws; log 1, 2, 4, 7, 8). -/
def Obligations.EnvironmentTurns : Prop :=
  ∀ (s : State) (rest : List Turn),
    (∀ v, s.agenda = .btn v :: rest → step s = .next { s with agenda := rest, btn := v }) ∧
    (s.agenda = .tmr :: rest →
      step s = .next { s with agenda := rest, tmr := if s.tmr = .running then .done else s.tmr }) ∧
    (∀ r, s.agenda = .answer r :: rest → step s = .next { s with agenda := rest, answer := some r }) ∧
    (∀ bs, s.agenda = .tail bs :: rest → step s = .next { s with agenda := rest, tail := bs }) ∧
    (s.agenda = [] → s.ph = .delay → s.tmr = .running → step s = .next { s with tmr := .done })

/-- 60_exceptions.md R150, 70_reset_and_hazards.md R183: no state stops the machine; a step is refused exactly
when the bus presents what is no Frame. -/
def Obligations.OnlyANonFrameIsRefused : Prop :=
  ∀ s : State,
    ((∃ fw, turnOf s = .bus fw ∧ (2 ^ 79 ≤ fw ∨ (fw < 2 ^ 79 ∧ 8 < fw / 2 ^ 64 % 16))) →
      ∃ r, step s = .refused (.rejectedWord r)) ∧
    ((¬ ∃ fw, turnOf s = .bus fw ∧ (2 ^ 79 ≤ fw ∨ (fw < 2 ^ 79 ∧ 8 < fw / 2 ^ 64 % 16))) →
      ∃ t, step s = .next t)

/-- Every step keeps the timer in use exactly in `DELAY` (41_gateways.md R108, 42_protocol_loop.md R120). -/
def Obligations.EveryStepKeepsTheTimerInvariant : Prop :=
  ∀ s t : State, TimerInv s → step s = .next t → TimerInv t

/-- Every step keeps a frame being processed pending (41_gateways.md R102, 42_protocol_loop.md R129). -/
def Obligations.EveryStepKeepsTheFramePending : Prop :=
  ∀ s t : State, PendingInv s → step s = .next t → PendingInv t

/-- Every step keeps the display what the phases have written so far (42_protocol_loop.md R124 to R128,
70_reset_and_hazards.md R179). -/
def Obligations.EveryStepKeepsTheDisplayInvariant : Prop :=
  ∀ s t : State, DisplayInv s → step s = .next t → DisplayInv t

/-- Every step of every agent, in every interleaving, keeps the trace on the phase graph and the phase register
where the trace stands (42_protocol_loop.md R120 to R129; 20_memory.md R61). -/
def Obligations.EveryStepKeepsTheTraceOnTheGraph : Prop :=
  ∀ s t : State, TraceInv s → step s = .next t → TraceInv t

/-- The invariants hold right after reset, with any turns to come, either `DECODE_SEL`, any filter, and any
content of `FR`, `SLOT` and `BTN`, which 10_state.md R38 leaves as free parts of the launch state. -/
def Obligations.InvariantsHoldAtReset : Prop :=
  ∀ (ts : List Turn) (sel : DecodeSel) (stops : List WireFrame) (f x : Frame) (b : Bool) (s : State),
    s = { State.reset with agenda := ts, decodeSel := sel, filterStops := stops, fr := f, slot := x, btn := b } →
    TimerInv s ∧ PendingInv s ∧ DisplayInv s ∧ TraceInv s

/-- Each register changes only in a step of the agent the table of 10_state.md R20 names as its writer, or in a
reset (70_reset_and_hazards.md R170); no step writes the build parameters (R30). -/
def Obligations.OnlyItsWriterChangesARegister : Prop :=
  ∀ s t : State, step s = .next t →
    (t.ph ≠ s.ph → turnOf s = .core ∨ turnOf s = .reset) ∧
    (t.fr ≠ s.fr → (turnOf s = .core ∧ s.ph = .rxchk ∧ s.rxpend = true) ∨ turnOf s = .reset) ∧
    (t.disp ≠ s.disp →
      (turnOf s = .core ∧ s.ph ∈ [Phase.clr, .set0, .set1, .set2, .set3]) ∨ turnOf s = .reset) ∧
    (t.diag ≠ s.diag → turnOf s = .val ∨ turnOf s = .reset) ∧
    (t.txerr ≠ s.txerr → (turnOf s = .core ∧ s.ph = .txchk) ∨ turnOf s = .reset) ∧
    (t.slot ≠ s.slot → (∃ fw, turnOf s = .bus fw) ∨ turnOf s = .reset) ∧
    (t.rxpend ≠ s.rxpend → (∃ fw, turnOf s = .bus fw) ∨ (turnOf s = .core ∧ s.ph = .ack) ∨ turnOf s = .reset) ∧
    (t.tmr ≠ s.tmr →
      turnOf s = .tmr ∨ (turnOf s = .core ∧ s.ph ∈ [Phase.txchk, .delay]) ∨ turnOf s = .reset) ∧
    (t.btn ≠ s.btn → (∃ v, turnOf s = .btn v) ∨ turnOf s = .reset) ∧
    t.decodeSel = s.decodeSel ∧ t.filterStops = s.filterStops

/-- No step but a reset clears `TXERR` or a diagnostic output (10_state.md R24, R25), over every run without a
reset from any state. -/
def Obligations.StickyUntilReset : Prop :=
  ∀ s t : State, Reaches s t → .reset ∉ t.trace.drop s.trace.length →
    (∃ es, t.trace = s.trace ++ es) ∧
    (s.txerr = true → t.txerr = true) ∧ ∀ k, diagBit s.diag k = true → diagBit t.diag k = true

/-- No other register depends on `DISP`, on `DIAG` or on `TXERR` (10_state.md R23, R24, R25), one at a time: from a
state with another `DISP` the same step ends in a state that differs in `DISP` only, with another `DIAG` in `DIAG`
only, with another `TXERR` in `TXERR` only. -/
def Obligations.StatusOutputsAreNeverRead : Prop :=
  ∀ s t : State, step s = .next t →
    (∀ d : Pattern, ∃ d', step { s with disp := d } = .next { t with disp := d' }) ∧
    (∀ g : BitVec 3, ∃ g', step { s with diag := g } = .next { t with diag := g' }) ∧
    (∀ e : Bool, ∃ e', step { s with txerr := e } = .next { t with txerr := e' })

/-- 20_memory.md R57: the later of two deliveries is the one the slot holds; nothing in the state, but the
trace and the count of draws, tells that an earlier one was overwritten: whatever the slot held before the
later delivery, that delivery ends in the same state, bytes beyond dataLength included (R54). -/
def Obligations.LaterDeliveryOverwrites : Prop :=
  ∀ (f g : WireFrame) (s : State), f.data.length ≤ 8 → g.data.length ≤ 8 →
    f ∉ s.filterStops → g ∉ s.filterStops → ∃ t u, exec (.deliver f) s = .next t ∧ exec (.deliver g) t = .next u ∧
      u.slot.id = g.id ∧ u.slot.dlc.toNat = g.data.length ∧
      (∀ j : Fin 8, ∀ b, g.data[j.val]? = some b → u.slot.byte j = b) ∧ u.rxpend = true ∧
      u = { s with slot := u.slot, rxpend := true, tail := [], draws := u.draws, trace := s.trace ++ [.deliver f, .deliver g] } ∧
      ∀ x : Frame, exec (.deliver g) { t with slot := x } = .next u

/-- 60_exceptions.md R156 and 70_reset_and_hazards.md R173: a delivery and the release of the frame before it,
in either order, are both runs; delivered first, the new frame is stranded in the slot and no longer
pending. -/
def Obligations.DeliveryAndReleaseInEitherOrder : Prop :=
  ∀ (g : WireFrame) (s : State) (rest : List Turn), g.data.length ≤ 8 → g ∉ s.filterStops → s.ph = .ack →
    (s.agenda = .bus g.toFW.toNat :: .core :: rest →
      ∃ t, Sys2Proof.core.run 2 s = .next t ∧ t.slot.toWire = g ∧ t.rxpend = false ∧ t.ph = .txchk) ∧
    (s.agenda = .core :: .bus g.toFW.toNat :: rest →
      ∃ t, Sys2Proof.core.run 2 s = .next t ∧ t.slot.toWire = g ∧ t.rxpend = true ∧ t.ph = .txchk)

/-- One `SET` phase on the ports: `out_we_o` raised with the index and the level written, and no other strobe. -/
def Sys2Proof.Machine.RaisesOut (i : Instr) (k : BitVec 2) (s : State) : Prop :=
  ∀ t, exec i s = .next t →
    portsOut s t = { portsQuiet t with out_o := some (k, (displayed s).getLsbD k.toNat) }

/-- The strobes of 10_state.md R33 in every step the table names (the view is the model's, log 21): `rx_clr_o` in
`ACK`, `out_clr_o` in `CLR`, `out_we_o` with index and level in `SET0` to `SET3`, the transmit group and `dly_start_o`
in a `TXCHK` that transmits, whose answer is the level of `tx_err_i`, `val_done_o` with the code of the outcome in
`VALIDATE`; none in a `TXCHK` that does not transmit, in `DELAY` and in `RXCHK`. -/
def Obligations.StrobesOfTheSteps : Prop :=
  ∀ s : State,
    (∀ t, exec .ack s = .next t → portsOut s t = { portsQuiet t with rx_clr_o := true }) ∧
    (∀ t, exec .clr s = .next t → portsOut s t = { portsQuiet t with out_clr_o := true }) ∧
    RaisesOut .set0 0#2 s ∧ RaisesOut .set1 1#2 s ∧ RaisesOut .set2 2#2 s ∧ RaisesOut .set3 3#2 s ∧
    (∀ t, exec .txchk s = .next t → s.btn = true → ∃ (data : BitVec 64) (r : TxAnswer),
      data.extractLsb' 56 8 = 10#8 ∧
      portsOut s t = { portsQuiet t with tx_o := some (26#11, 1#4, data), dly_start_o := true } ∧
      t.trace = s.trace ++ [.btnread true, .tx { id := 26#11, data := [10#8] } r, .waitstart] ∧
      ∀ turn, (portsIn turn s).tx_err_i = r.code) ∧
    (∀ t, exec .txchk s = .next t → s.btn = false → portsOut s t = portsQuiet t) ∧
    (∀ t, exec .delay s = .next t → portsOut s t = portsQuiet t) ∧
    (∀ t, exec .rxchk s = .next t → portsOut s t = portsQuiet t) ∧
    (∀ t, exec .validate s = .next t → ∃ o, t.ret = .outcome o ∧
      portsOut s t = { portsQuiet t with val_o := some o.code })
end

