-- ==== Sys2Proof/Laws/Codec.lean ====
section
/-! SUPPORT. The constants of the codec as numbers, and the small lemmas of its functions. -/

namespace Sys2Proof

@[simp] theorem Config.groupNibble_eq : Config.groupNibble = 0x0A#8 := by decide

@[simp] theorem Config.valPayload_eq : Config.valPayload = 0x04#8 := by decide

/-- The rows of the loop path as the words of 30_encoding.md R73. -/
theorem loopRows_eq : loopRows =
    [ { mask := 0x0000FF00000000000000#79, bits := 0x00000A00000000000000#79, instr := .rxGroup }
    , { mask := 0#79, bits := 0#79, instr := .rxOther } ] := rfl

/-- The rows of the validator path as the words of 30_encoding.md R74. -/
theorem validatorRows_eq : validatorRows =
    [ { mask := 0x7FFFFF00000000000000#79, bits := 0x02610400000000000000#79, instr := .valAccepted }
    , { mask := 0x7FFF0000000000000000#79, bits := 0x02610000000000000000#79, instr := .valPayloadMismatch }
    , { mask := 0x7FF00000000000000000#79, bits := 0x02600000000000000000#79, instr := .valLengthMismatch }
    , { mask := 0#79, bits := 0#79, instr := .valHeaderMismatch } ] := rfl

/-- The row of the transmitted frame as the words of 30_encoding.md R72. -/
theorem statusRow_eq : statusRow =
    { mask := 0x7FFFFF00000000000000#79, bits := 0x01A10A00000000000000#79, instr := fun _ => .status } := rfl

/-- A transmit answer is the one its level of `tx_err_i` stands for. -/
@[simp] theorem TxAnswer.ofCode_code (r : TxAnswer) : TxAnswer.ofCode r.code = r := by cases r <;> rfl

/-- A level of `tx_err_i` is the one of the answer it stands for. -/
@[simp] theorem TxAnswer.code_ofCode (b : BitVec 1) : (TxAnswer.ofCode b).code = b := by revert b; decide

@[simp] theorem WireFrame.wellFormed_iff (f : WireFrame) : f.wellFormed = true ↔ f.data.length ≤ 8 :=
  decide_eq_true_iff

@[simp] theorem Frame.byte_ofBytes (id : BitVec 11) (dlc : BitVec 4) (g : Fin 8 → Byte) (j : Fin 8) :
    (Frame.ofBytes id dlc g).byte j = g j := by
  fin_cases j <;> rfl

@[simp] theorem Frame.id_ofBytes (id : BitVec 11) (dlc : BitVec 4) (g : Fin 8 → Byte) :
    (Frame.ofBytes id dlc g).id = id := rfl

@[simp] theorem Frame.dlc_ofBytes (id : BitVec 11) (dlc : BitVec 4) (g : Fin 8 → Byte) :
    (Frame.ofBytes id dlc g).dlc = dlc := rfl

/-- A register that holds a bus frame carries its dataLength. -/
theorem WireFrame.toFrame_dlc (f : WireFrame) (h : f.data.length ≤ 8) (fill : Fin 8 → Byte) :
    (f.toFrame fill).dlc.toNat = f.data.length := by
  simp only [WireFrame.toFrame, Frame.ofBytes, WireFrame.dataLength, BitVec.toNat_ofNat]
  exact Nat.mod_eq_of_lt (by omega)

/-- A register that holds a bus frame spells that frame, whatever fills the bytes beyond dataLength. -/
theorem WireFrame.toWire_toFrame (f : WireFrame) (h : f.data.length ≤ 8) (fill : Fin 8 → Byte) :
    (f.toFrame fill).toWire = f := by
  obtain ⟨id, d⟩ := f
  simp only at h
  simp only [WireFrame.toFrame, Frame.toWire, Frame.ofBytes, WireFrame.dataLength, WireFrame.mk.injEq, true_and,
    BitVec.toNat_ofNat]
  rw [Nat.mod_eq_of_lt (show d.length < 2 ^ 4 by omega)]
  rcases d with _ | ⟨_, _ | ⟨_, _ | ⟨_, _ | ⟨_, _ | ⟨_, _ | ⟨_, _ | ⟨_, _ | ⟨_, _ | ⟨_, _⟩⟩⟩⟩⟩⟩⟩⟩⟩ <;> simp_all
  omega

/-- Payload byte j of a register that holds a bus frame: the frame's byte, or the fill beyond dataLength. -/
@[simp] theorem WireFrame.byte_toFrame (f : WireFrame) (fill : Fin 8 → Byte) (j : Fin 8) :
    (f.toFrame fill).byte j = (f.data[j.val]?).getD (fill j) := by
  simp [WireFrame.toFrame]

namespace Machine

theorem enc_eq : enc = { id := 26#11, data := [0x0A#8] } := by decide

/-- Bit i of a decoded pattern is bit i of the byte. -/
theorem getLsbD_dec (b : Byte) (i : Nat) (h : i < 4) : (dec b).getLsbD i = b.getLsbD i := by
  simp [dec, h]

theorem grpchk_iff (f : Frame) : grpchk f = true ↔ f.p0 = 0x0A#8 := by
  simp [grpchk, Frame.byte]

theorem outcomeOf_accepted_iff (f : Frame) :
    outcomeOf f = .accepted ↔ f.id = 0x026#11 ∧ f.dlc = 1#4 ∧ f.p0 = 0x04#8 := by
  simp only [outcomeOf, Frame.byte, Config.valId, Config.valLen, Config.valPayload_eq]
  split
  · simp [*]
  · split
    · simp [*]
    · split <;> simp_all

end Machine

end Sys2Proof
end

