-- ==== Sys2Proof/Laws/State.lean ====
section
/-! SUPPORT. One lemma per field per named update of State. -/

namespace Sys2Proof.Machine.State

variable (s : State)

@[simp] theorem emit_ph (e : Event) : (s.emit e).ph = s.ph := rfl
@[simp] theorem emit_fr (e : Event) : (s.emit e).fr = s.fr := rfl
@[simp] theorem emit_disp (e : Event) : (s.emit e).disp = s.disp := rfl
@[simp] theorem emit_diag (e : Event) : (s.emit e).diag = s.diag := rfl
@[simp] theorem emit_txerr (e : Event) : (s.emit e).txerr = s.txerr := rfl
@[simp] theorem emit_slot (e : Event) : (s.emit e).slot = s.slot := rfl
@[simp] theorem emit_rxpend (e : Event) : (s.emit e).rxpend = s.rxpend := rfl
@[simp] theorem emit_tmr (e : Event) : (s.emit e).tmr = s.tmr := rfl
@[simp] theorem emit_btn (e : Event) : (s.emit e).btn = s.btn := rfl
@[simp] theorem emit_trace (e : Event) : (s.emit e).trace = s.trace ++ [e] := rfl
@[simp] theorem emit_ret (e : Event) : (s.emit e).ret = s.ret := rfl
@[simp] theorem emit_decodeSel (e : Event) : (s.emit e).decodeSel = s.decodeSel := rfl
@[simp] theorem emit_filterStops (e : Event) : (s.emit e).filterStops = s.filterStops := rfl
@[simp] theorem emit_agenda (e : Event) : (s.emit e).agenda = s.agenda := rfl
@[simp] theorem emit_answer (e : Event) : (s.emit e).answer = s.answer := rfl
@[simp] theorem emit_tail (e : Event) : (s.emit e).tail = s.tail := rfl
@[simp] theorem emit_draws (e : Event) : (s.emit e).draws = s.draws := rfl

@[simp] theorem goto_ph (p : Phase) : (s.goto p).ph = p := rfl
@[simp] theorem goto_fr (p : Phase) : (s.goto p).fr = s.fr := rfl
@[simp] theorem goto_disp (p : Phase) : (s.goto p).disp = s.disp := rfl
@[simp] theorem goto_diag (p : Phase) : (s.goto p).diag = s.diag := rfl
@[simp] theorem goto_txerr (p : Phase) : (s.goto p).txerr = s.txerr := rfl
@[simp] theorem goto_slot (p : Phase) : (s.goto p).slot = s.slot := rfl
@[simp] theorem goto_rxpend (p : Phase) : (s.goto p).rxpend = s.rxpend := rfl
@[simp] theorem goto_tmr (p : Phase) : (s.goto p).tmr = s.tmr := rfl
@[simp] theorem goto_btn (p : Phase) : (s.goto p).btn = s.btn := rfl
@[simp] theorem goto_trace (p : Phase) : (s.goto p).trace = s.trace := rfl
@[simp] theorem goto_ret (p : Phase) : (s.goto p).ret = s.ret := rfl
@[simp] theorem goto_decodeSel (p : Phase) : (s.goto p).decodeSel = s.decodeSel := rfl
@[simp] theorem goto_filterStops (p : Phase) : (s.goto p).filterStops = s.filterStops := rfl
@[simp] theorem goto_agenda (p : Phase) : (s.goto p).agenda = s.agenda := rfl
@[simp] theorem goto_answer (p : Phase) : (s.goto p).answer = s.answer := rfl
@[simp] theorem goto_tail (p : Phase) : (s.goto p).tail = s.tail := rfl
@[simp] theorem goto_draws (p : Phase) : (s.goto p).draws = s.draws := rfl

@[simp] theorem setFr_ph (f : Frame) : (s.setFr f).ph = s.ph := rfl
@[simp] theorem setFr_fr (f : Frame) : (s.setFr f).fr = f := rfl
@[simp] theorem setFr_disp (f : Frame) : (s.setFr f).disp = s.disp := rfl
@[simp] theorem setFr_diag (f : Frame) : (s.setFr f).diag = s.diag := rfl
@[simp] theorem setFr_txerr (f : Frame) : (s.setFr f).txerr = s.txerr := rfl
@[simp] theorem setFr_slot (f : Frame) : (s.setFr f).slot = s.slot := rfl
@[simp] theorem setFr_rxpend (f : Frame) : (s.setFr f).rxpend = s.rxpend := rfl
@[simp] theorem setFr_tmr (f : Frame) : (s.setFr f).tmr = s.tmr := rfl
@[simp] theorem setFr_btn (f : Frame) : (s.setFr f).btn = s.btn := rfl
@[simp] theorem setFr_trace (f : Frame) : (s.setFr f).trace = s.trace := rfl
@[simp] theorem setFr_ret (f : Frame) : (s.setFr f).ret = s.ret := rfl
@[simp] theorem setFr_decodeSel (f : Frame) : (s.setFr f).decodeSel = s.decodeSel := rfl
@[simp] theorem setFr_filterStops (f : Frame) : (s.setFr f).filterStops = s.filterStops := rfl
@[simp] theorem setFr_agenda (f : Frame) : (s.setFr f).agenda = s.agenda := rfl
@[simp] theorem setFr_answer (f : Frame) : (s.setFr f).answer = s.answer := rfl
@[simp] theorem setFr_tail (f : Frame) : (s.setFr f).tail = s.tail := rfl
@[simp] theorem setFr_draws (f : Frame) : (s.setFr f).draws = s.draws := rfl

@[simp] theorem setDisp_ph (d : BitVec 4) : (s.setDisp d).ph = s.ph := rfl
@[simp] theorem setDisp_fr (d : BitVec 4) : (s.setDisp d).fr = s.fr := rfl
@[simp] theorem setDisp_disp (d : BitVec 4) : (s.setDisp d).disp = d := rfl
@[simp] theorem setDisp_diag (d : BitVec 4) : (s.setDisp d).diag = s.diag := rfl
@[simp] theorem setDisp_txerr (d : BitVec 4) : (s.setDisp d).txerr = s.txerr := rfl
@[simp] theorem setDisp_slot (d : BitVec 4) : (s.setDisp d).slot = s.slot := rfl
@[simp] theorem setDisp_rxpend (d : BitVec 4) : (s.setDisp d).rxpend = s.rxpend := rfl
@[simp] theorem setDisp_tmr (d : BitVec 4) : (s.setDisp d).tmr = s.tmr := rfl
@[simp] theorem setDisp_btn (d : BitVec 4) : (s.setDisp d).btn = s.btn := rfl
@[simp] theorem setDisp_trace (d : BitVec 4) : (s.setDisp d).trace = s.trace := rfl
@[simp] theorem setDisp_ret (d : BitVec 4) : (s.setDisp d).ret = s.ret := rfl
@[simp] theorem setDisp_decodeSel (d : BitVec 4) : (s.setDisp d).decodeSel = s.decodeSel := rfl
@[simp] theorem setDisp_filterStops (d : BitVec 4) : (s.setDisp d).filterStops = s.filterStops := rfl
@[simp] theorem setDisp_agenda (d : BitVec 4) : (s.setDisp d).agenda = s.agenda := rfl
@[simp] theorem setDisp_answer (d : BitVec 4) : (s.setDisp d).answer = s.answer := rfl
@[simp] theorem setDisp_tail (d : BitVec 4) : (s.setDisp d).tail = s.tail := rfl
@[simp] theorem setDisp_draws (d : BitVec 4) : (s.setDisp d).draws = s.draws := rfl

@[simp] theorem setDiag_ph (d : BitVec 3) : (s.setDiag d).ph = s.ph := rfl
@[simp] theorem setDiag_fr (d : BitVec 3) : (s.setDiag d).fr = s.fr := rfl
@[simp] theorem setDiag_disp (d : BitVec 3) : (s.setDiag d).disp = s.disp := rfl
@[simp] theorem setDiag_diag (d : BitVec 3) : (s.setDiag d).diag = d := rfl
@[simp] theorem setDiag_txerr (d : BitVec 3) : (s.setDiag d).txerr = s.txerr := rfl
@[simp] theorem setDiag_slot (d : BitVec 3) : (s.setDiag d).slot = s.slot := rfl
@[simp] theorem setDiag_rxpend (d : BitVec 3) : (s.setDiag d).rxpend = s.rxpend := rfl
@[simp] theorem setDiag_tmr (d : BitVec 3) : (s.setDiag d).tmr = s.tmr := rfl
@[simp] theorem setDiag_btn (d : BitVec 3) : (s.setDiag d).btn = s.btn := rfl
@[simp] theorem setDiag_trace (d : BitVec 3) : (s.setDiag d).trace = s.trace := rfl
@[simp] theorem setDiag_ret (d : BitVec 3) : (s.setDiag d).ret = s.ret := rfl
@[simp] theorem setDiag_decodeSel (d : BitVec 3) : (s.setDiag d).decodeSel = s.decodeSel := rfl
@[simp] theorem setDiag_filterStops (d : BitVec 3) : (s.setDiag d).filterStops = s.filterStops := rfl
@[simp] theorem setDiag_agenda (d : BitVec 3) : (s.setDiag d).agenda = s.agenda := rfl
@[simp] theorem setDiag_answer (d : BitVec 3) : (s.setDiag d).answer = s.answer := rfl
@[simp] theorem setDiag_tail (d : BitVec 3) : (s.setDiag d).tail = s.tail := rfl
@[simp] theorem setDiag_draws (d : BitVec 3) : (s.setDiag d).draws = s.draws := rfl

@[simp] theorem setTxerr_ph (v : Bool) : (s.setTxerr v).ph = s.ph := rfl
@[simp] theorem setTxerr_fr (v : Bool) : (s.setTxerr v).fr = s.fr := rfl
@[simp] theorem setTxerr_disp (v : Bool) : (s.setTxerr v).disp = s.disp := rfl
@[simp] theorem setTxerr_diag (v : Bool) : (s.setTxerr v).diag = s.diag := rfl
@[simp] theorem setTxerr_txerr (v : Bool) : (s.setTxerr v).txerr = v := rfl
@[simp] theorem setTxerr_slot (v : Bool) : (s.setTxerr v).slot = s.slot := rfl
@[simp] theorem setTxerr_rxpend (v : Bool) : (s.setTxerr v).rxpend = s.rxpend := rfl
@[simp] theorem setTxerr_tmr (v : Bool) : (s.setTxerr v).tmr = s.tmr := rfl
@[simp] theorem setTxerr_btn (v : Bool) : (s.setTxerr v).btn = s.btn := rfl
@[simp] theorem setTxerr_trace (v : Bool) : (s.setTxerr v).trace = s.trace := rfl
@[simp] theorem setTxerr_ret (v : Bool) : (s.setTxerr v).ret = s.ret := rfl
@[simp] theorem setTxerr_decodeSel (v : Bool) : (s.setTxerr v).decodeSel = s.decodeSel := rfl
@[simp] theorem setTxerr_filterStops (v : Bool) : (s.setTxerr v).filterStops = s.filterStops := rfl
@[simp] theorem setTxerr_agenda (v : Bool) : (s.setTxerr v).agenda = s.agenda := rfl
@[simp] theorem setTxerr_answer (v : Bool) : (s.setTxerr v).answer = s.answer := rfl
@[simp] theorem setTxerr_tail (v : Bool) : (s.setTxerr v).tail = s.tail := rfl
@[simp] theorem setTxerr_draws (v : Bool) : (s.setTxerr v).draws = s.draws := rfl

@[simp] theorem setSlot_ph (f : Frame) : (s.setSlot f).ph = s.ph := rfl
@[simp] theorem setSlot_fr (f : Frame) : (s.setSlot f).fr = s.fr := rfl
@[simp] theorem setSlot_disp (f : Frame) : (s.setSlot f).disp = s.disp := rfl
@[simp] theorem setSlot_diag (f : Frame) : (s.setSlot f).diag = s.diag := rfl
@[simp] theorem setSlot_txerr (f : Frame) : (s.setSlot f).txerr = s.txerr := rfl
@[simp] theorem setSlot_slot (f : Frame) : (s.setSlot f).slot = f := rfl
@[simp] theorem setSlot_rxpend (f : Frame) : (s.setSlot f).rxpend = s.rxpend := rfl
@[simp] theorem setSlot_tmr (f : Frame) : (s.setSlot f).tmr = s.tmr := rfl
@[simp] theorem setSlot_btn (f : Frame) : (s.setSlot f).btn = s.btn := rfl
@[simp] theorem setSlot_trace (f : Frame) : (s.setSlot f).trace = s.trace := rfl
@[simp] theorem setSlot_ret (f : Frame) : (s.setSlot f).ret = s.ret := rfl
@[simp] theorem setSlot_decodeSel (f : Frame) : (s.setSlot f).decodeSel = s.decodeSel := rfl
@[simp] theorem setSlot_filterStops (f : Frame) : (s.setSlot f).filterStops = s.filterStops := rfl
@[simp] theorem setSlot_agenda (f : Frame) : (s.setSlot f).agenda = s.agenda := rfl
@[simp] theorem setSlot_answer (f : Frame) : (s.setSlot f).answer = s.answer := rfl
@[simp] theorem setSlot_tail (f : Frame) : (s.setSlot f).tail = s.tail := rfl
@[simp] theorem setSlot_draws (f : Frame) : (s.setSlot f).draws = s.draws := rfl

@[simp] theorem setRxpend_ph (v : Bool) : (s.setRxpend v).ph = s.ph := rfl
@[simp] theorem setRxpend_fr (v : Bool) : (s.setRxpend v).fr = s.fr := rfl
@[simp] theorem setRxpend_disp (v : Bool) : (s.setRxpend v).disp = s.disp := rfl
@[simp] theorem setRxpend_diag (v : Bool) : (s.setRxpend v).diag = s.diag := rfl
@[simp] theorem setRxpend_txerr (v : Bool) : (s.setRxpend v).txerr = s.txerr := rfl
@[simp] theorem setRxpend_slot (v : Bool) : (s.setRxpend v).slot = s.slot := rfl
@[simp] theorem setRxpend_rxpend (v : Bool) : (s.setRxpend v).rxpend = v := rfl
@[simp] theorem setRxpend_tmr (v : Bool) : (s.setRxpend v).tmr = s.tmr := rfl
@[simp] theorem setRxpend_btn (v : Bool) : (s.setRxpend v).btn = s.btn := rfl
@[simp] theorem setRxpend_trace (v : Bool) : (s.setRxpend v).trace = s.trace := rfl
@[simp] theorem setRxpend_ret (v : Bool) : (s.setRxpend v).ret = s.ret := rfl
@[simp] theorem setRxpend_decodeSel (v : Bool) : (s.setRxpend v).decodeSel = s.decodeSel := rfl
@[simp] theorem setRxpend_filterStops (v : Bool) : (s.setRxpend v).filterStops = s.filterStops := rfl
@[simp] theorem setRxpend_agenda (v : Bool) : (s.setRxpend v).agenda = s.agenda := rfl
@[simp] theorem setRxpend_answer (v : Bool) : (s.setRxpend v).answer = s.answer := rfl
@[simp] theorem setRxpend_tail (v : Bool) : (s.setRxpend v).tail = s.tail := rfl
@[simp] theorem setRxpend_draws (v : Bool) : (s.setRxpend v).draws = s.draws := rfl

@[simp] theorem setTmr_ph (v : Timer) : (s.setTmr v).ph = s.ph := rfl
@[simp] theorem setTmr_fr (v : Timer) : (s.setTmr v).fr = s.fr := rfl
@[simp] theorem setTmr_disp (v : Timer) : (s.setTmr v).disp = s.disp := rfl
@[simp] theorem setTmr_diag (v : Timer) : (s.setTmr v).diag = s.diag := rfl
@[simp] theorem setTmr_txerr (v : Timer) : (s.setTmr v).txerr = s.txerr := rfl
@[simp] theorem setTmr_slot (v : Timer) : (s.setTmr v).slot = s.slot := rfl
@[simp] theorem setTmr_rxpend (v : Timer) : (s.setTmr v).rxpend = s.rxpend := rfl
@[simp] theorem setTmr_tmr (v : Timer) : (s.setTmr v).tmr = v := rfl
@[simp] theorem setTmr_btn (v : Timer) : (s.setTmr v).btn = s.btn := rfl
@[simp] theorem setTmr_trace (v : Timer) : (s.setTmr v).trace = s.trace := rfl
@[simp] theorem setTmr_ret (v : Timer) : (s.setTmr v).ret = s.ret := rfl
@[simp] theorem setTmr_decodeSel (v : Timer) : (s.setTmr v).decodeSel = s.decodeSel := rfl
@[simp] theorem setTmr_filterStops (v : Timer) : (s.setTmr v).filterStops = s.filterStops := rfl
@[simp] theorem setTmr_agenda (v : Timer) : (s.setTmr v).agenda = s.agenda := rfl
@[simp] theorem setTmr_answer (v : Timer) : (s.setTmr v).answer = s.answer := rfl
@[simp] theorem setTmr_tail (v : Timer) : (s.setTmr v).tail = s.tail := rfl
@[simp] theorem setTmr_draws (v : Timer) : (s.setTmr v).draws = s.draws := rfl

@[simp] theorem setBtn_ph (v : Bool) : (s.setBtn v).ph = s.ph := rfl
@[simp] theorem setBtn_fr (v : Bool) : (s.setBtn v).fr = s.fr := rfl
@[simp] theorem setBtn_disp (v : Bool) : (s.setBtn v).disp = s.disp := rfl
@[simp] theorem setBtn_diag (v : Bool) : (s.setBtn v).diag = s.diag := rfl
@[simp] theorem setBtn_txerr (v : Bool) : (s.setBtn v).txerr = s.txerr := rfl
@[simp] theorem setBtn_slot (v : Bool) : (s.setBtn v).slot = s.slot := rfl
@[simp] theorem setBtn_rxpend (v : Bool) : (s.setBtn v).rxpend = s.rxpend := rfl
@[simp] theorem setBtn_tmr (v : Bool) : (s.setBtn v).tmr = s.tmr := rfl
@[simp] theorem setBtn_btn (v : Bool) : (s.setBtn v).btn = v := rfl
@[simp] theorem setBtn_trace (v : Bool) : (s.setBtn v).trace = s.trace := rfl
@[simp] theorem setBtn_ret (v : Bool) : (s.setBtn v).ret = s.ret := rfl
@[simp] theorem setBtn_decodeSel (v : Bool) : (s.setBtn v).decodeSel = s.decodeSel := rfl
@[simp] theorem setBtn_filterStops (v : Bool) : (s.setBtn v).filterStops = s.filterStops := rfl
@[simp] theorem setBtn_agenda (v : Bool) : (s.setBtn v).agenda = s.agenda := rfl
@[simp] theorem setBtn_answer (v : Bool) : (s.setBtn v).answer = s.answer := rfl
@[simp] theorem setBtn_tail (v : Bool) : (s.setBtn v).tail = s.tail := rfl
@[simp] theorem setBtn_draws (v : Bool) : (s.setBtn v).draws = s.draws := rfl

@[simp] theorem setRet_ph (v : Ret) : (s.setRet v).ph = s.ph := rfl
@[simp] theorem setRet_fr (v : Ret) : (s.setRet v).fr = s.fr := rfl
@[simp] theorem setRet_disp (v : Ret) : (s.setRet v).disp = s.disp := rfl
@[simp] theorem setRet_diag (v : Ret) : (s.setRet v).diag = s.diag := rfl
@[simp] theorem setRet_txerr (v : Ret) : (s.setRet v).txerr = s.txerr := rfl
@[simp] theorem setRet_slot (v : Ret) : (s.setRet v).slot = s.slot := rfl
@[simp] theorem setRet_rxpend (v : Ret) : (s.setRet v).rxpend = s.rxpend := rfl
@[simp] theorem setRet_tmr (v : Ret) : (s.setRet v).tmr = s.tmr := rfl
@[simp] theorem setRet_btn (v : Ret) : (s.setRet v).btn = s.btn := rfl
@[simp] theorem setRet_trace (v : Ret) : (s.setRet v).trace = s.trace := rfl
@[simp] theorem setRet_ret (v : Ret) : (s.setRet v).ret = v := rfl
@[simp] theorem setRet_decodeSel (v : Ret) : (s.setRet v).decodeSel = s.decodeSel := rfl
@[simp] theorem setRet_filterStops (v : Ret) : (s.setRet v).filterStops = s.filterStops := rfl
@[simp] theorem setRet_agenda (v : Ret) : (s.setRet v).agenda = s.agenda := rfl
@[simp] theorem setRet_answer (v : Ret) : (s.setRet v).answer = s.answer := rfl
@[simp] theorem setRet_tail (v : Ret) : (s.setRet v).tail = s.tail := rfl
@[simp] theorem setRet_draws (v : Ret) : (s.setRet v).draws = s.draws := rfl

@[simp] theorem setAgenda_ph (ts : List Turn) : (s.setAgenda ts).ph = s.ph := rfl
@[simp] theorem setAgenda_fr (ts : List Turn) : (s.setAgenda ts).fr = s.fr := rfl
@[simp] theorem setAgenda_disp (ts : List Turn) : (s.setAgenda ts).disp = s.disp := rfl
@[simp] theorem setAgenda_diag (ts : List Turn) : (s.setAgenda ts).diag = s.diag := rfl
@[simp] theorem setAgenda_txerr (ts : List Turn) : (s.setAgenda ts).txerr = s.txerr := rfl
@[simp] theorem setAgenda_slot (ts : List Turn) : (s.setAgenda ts).slot = s.slot := rfl
@[simp] theorem setAgenda_rxpend (ts : List Turn) : (s.setAgenda ts).rxpend = s.rxpend := rfl
@[simp] theorem setAgenda_tmr (ts : List Turn) : (s.setAgenda ts).tmr = s.tmr := rfl
@[simp] theorem setAgenda_btn (ts : List Turn) : (s.setAgenda ts).btn = s.btn := rfl
@[simp] theorem setAgenda_trace (ts : List Turn) : (s.setAgenda ts).trace = s.trace := rfl
@[simp] theorem setAgenda_ret (ts : List Turn) : (s.setAgenda ts).ret = s.ret := rfl
@[simp] theorem setAgenda_decodeSel (ts : List Turn) : (s.setAgenda ts).decodeSel = s.decodeSel := rfl
@[simp] theorem setAgenda_filterStops (ts : List Turn) : (s.setAgenda ts).filterStops = s.filterStops := rfl
@[simp] theorem setAgenda_agenda (ts : List Turn) : (s.setAgenda ts).agenda = ts := rfl
@[simp] theorem setAgenda_answer (ts : List Turn) : (s.setAgenda ts).answer = s.answer := rfl
@[simp] theorem setAgenda_tail (ts : List Turn) : (s.setAgenda ts).tail = s.tail := rfl
@[simp] theorem setAgenda_draws (ts : List Turn) : (s.setAgenda ts).draws = s.draws := rfl

@[simp] theorem setAnswer_ph (a : Option TxAnswer) : (s.setAnswer a).ph = s.ph := rfl
@[simp] theorem setAnswer_fr (a : Option TxAnswer) : (s.setAnswer a).fr = s.fr := rfl
@[simp] theorem setAnswer_disp (a : Option TxAnswer) : (s.setAnswer a).disp = s.disp := rfl
@[simp] theorem setAnswer_diag (a : Option TxAnswer) : (s.setAnswer a).diag = s.diag := rfl
@[simp] theorem setAnswer_txerr (a : Option TxAnswer) : (s.setAnswer a).txerr = s.txerr := rfl
@[simp] theorem setAnswer_slot (a : Option TxAnswer) : (s.setAnswer a).slot = s.slot := rfl
@[simp] theorem setAnswer_rxpend (a : Option TxAnswer) : (s.setAnswer a).rxpend = s.rxpend := rfl
@[simp] theorem setAnswer_tmr (a : Option TxAnswer) : (s.setAnswer a).tmr = s.tmr := rfl
@[simp] theorem setAnswer_btn (a : Option TxAnswer) : (s.setAnswer a).btn = s.btn := rfl
@[simp] theorem setAnswer_trace (a : Option TxAnswer) : (s.setAnswer a).trace = s.trace := rfl
@[simp] theorem setAnswer_ret (a : Option TxAnswer) : (s.setAnswer a).ret = s.ret := rfl
@[simp] theorem setAnswer_decodeSel (a : Option TxAnswer) : (s.setAnswer a).decodeSel = s.decodeSel := rfl
@[simp] theorem setAnswer_filterStops (a : Option TxAnswer) : (s.setAnswer a).filterStops = s.filterStops := rfl
@[simp] theorem setAnswer_agenda (a : Option TxAnswer) : (s.setAnswer a).agenda = s.agenda := rfl
@[simp] theorem setAnswer_answer (a : Option TxAnswer) : (s.setAnswer a).answer = a := rfl
@[simp] theorem setAnswer_tail (a : Option TxAnswer) : (s.setAnswer a).tail = s.tail := rfl
@[simp] theorem setAnswer_draws (a : Option TxAnswer) : (s.setAnswer a).draws = s.draws := rfl

@[simp] theorem setTail_ph (bs : List Byte) : (s.setTail bs).ph = s.ph := rfl
@[simp] theorem setTail_fr (bs : List Byte) : (s.setTail bs).fr = s.fr := rfl
@[simp] theorem setTail_disp (bs : List Byte) : (s.setTail bs).disp = s.disp := rfl
@[simp] theorem setTail_diag (bs : List Byte) : (s.setTail bs).diag = s.diag := rfl
@[simp] theorem setTail_txerr (bs : List Byte) : (s.setTail bs).txerr = s.txerr := rfl
@[simp] theorem setTail_slot (bs : List Byte) : (s.setTail bs).slot = s.slot := rfl
@[simp] theorem setTail_rxpend (bs : List Byte) : (s.setTail bs).rxpend = s.rxpend := rfl
@[simp] theorem setTail_tmr (bs : List Byte) : (s.setTail bs).tmr = s.tmr := rfl
@[simp] theorem setTail_btn (bs : List Byte) : (s.setTail bs).btn = s.btn := rfl
@[simp] theorem setTail_trace (bs : List Byte) : (s.setTail bs).trace = s.trace := rfl
@[simp] theorem setTail_ret (bs : List Byte) : (s.setTail bs).ret = s.ret := rfl
@[simp] theorem setTail_decodeSel (bs : List Byte) : (s.setTail bs).decodeSel = s.decodeSel := rfl
@[simp] theorem setTail_filterStops (bs : List Byte) : (s.setTail bs).filterStops = s.filterStops := rfl
@[simp] theorem setTail_agenda (bs : List Byte) : (s.setTail bs).agenda = s.agenda := rfl
@[simp] theorem setTail_answer (bs : List Byte) : (s.setTail bs).answer = s.answer := rfl
@[simp] theorem setTail_tail (bs : List Byte) : (s.setTail bs).tail = bs := rfl
@[simp] theorem setTail_draws (bs : List Byte) : (s.setTail bs).draws = s.draws := rfl

@[simp] theorem useDraws_ph (n : Nat) : (s.useDraws n).ph = s.ph := rfl
@[simp] theorem useDraws_fr (n : Nat) : (s.useDraws n).fr = s.fr := rfl
@[simp] theorem useDraws_disp (n : Nat) : (s.useDraws n).disp = s.disp := rfl
@[simp] theorem useDraws_diag (n : Nat) : (s.useDraws n).diag = s.diag := rfl
@[simp] theorem useDraws_txerr (n : Nat) : (s.useDraws n).txerr = s.txerr := rfl
@[simp] theorem useDraws_slot (n : Nat) : (s.useDraws n).slot = s.slot := rfl
@[simp] theorem useDraws_rxpend (n : Nat) : (s.useDraws n).rxpend = s.rxpend := rfl
@[simp] theorem useDraws_tmr (n : Nat) : (s.useDraws n).tmr = s.tmr := rfl
@[simp] theorem useDraws_btn (n : Nat) : (s.useDraws n).btn = s.btn := rfl
@[simp] theorem useDraws_trace (n : Nat) : (s.useDraws n).trace = s.trace := rfl
@[simp] theorem useDraws_ret (n : Nat) : (s.useDraws n).ret = s.ret := rfl
@[simp] theorem useDraws_decodeSel (n : Nat) : (s.useDraws n).decodeSel = s.decodeSel := rfl
@[simp] theorem useDraws_filterStops (n : Nat) : (s.useDraws n).filterStops = s.filterStops := rfl
@[simp] theorem useDraws_agenda (n : Nat) : (s.useDraws n).agenda = s.agenda := rfl
@[simp] theorem useDraws_answer (n : Nat) : (s.useDraws n).answer = s.answer := rfl
@[simp] theorem useDraws_tail (n : Nat) : (s.useDraws n).tail = s.tail := rfl
@[simp] theorem useDraws_draws (n : Nat) : (s.useDraws n).draws = s.draws + n := rfl

end Sys2Proof.Machine.State
end

