-- ==== Sys2Proof/Laws/Ops.lean ====
section
/-! SUPPORT. One lemma per shared operation: everything it returns and everything it does. -/

namespace Sys2Proof.Machine

variable (s : State)

/-- A transmit returns the drawn answer, uses it up and records it; nothing else changes. -/
theorem transmit_spec (f : WireFrame) :
    transmit f s = (drawnAnswer s,
      { s with answer := none, draws := s.draws + 1, trace := s.trace ++ [.tx f (drawnAnswer s)] }) := rfl

/-- A poll of a pending slot returns the whole slot and only records it. -/
theorem poll_pending (h : s.rxpend = true) :
    poll s = (some s.slot, { s with trace := s.trace ++ [.poll (some s.slot)] }) := by
  simp [poll, h, State.emit]

/-- A poll with nothing pending returns nothing and only records it. -/
theorem poll_empty (h : s.rxpend = false) :
    poll s = (none, { s with trace := s.trace ++ [.poll none] }) := by
  simp [poll, h, State.emit]

/-- The clear writes the pending condition and nothing else. -/
theorem clrpend_spec : clrpend s = { s with rxpend := false, trace := s.trace ++ [.clrpend] } := rfl

/-- A delivery fills the slot and sets the pending condition. -/
theorem deliver_spec (f : WireFrame) :
    deliver f s =
      { s with
        slot := f.toFrame (drawnByte s f.dataLength)
        rxpend := true
        tail := []
        draws := s.draws + 8
        trace := s.trace ++ [.deliver f] } := rfl

/-- Reading the button only records the level. -/
theorem btnrd_spec : btnrd s = (s.btn, { s with trace := s.trace ++ [.btnread s.btn] }) := rfl

/-- Writing an output writes one bit of the display. -/
theorem setout_spec (i : BitVec 2) (v : Bool) :
    setout i v s = { s with disp := withOut s.disp i v, trace := s.trace ++ [.setout i v] } := rfl

/-- The clear of the outputs writes the display and nothing else. -/
theorem clrout_spec : clrout s = { s with disp := 0b0000#4, trace := s.trace ++ [.clrout] } := rfl

/-- Driving a diagnostic output writes one bit of the diagnostics. -/
theorem setdiag_spec (k : DiagIndex) :
    setdiag k s = { s with diag := withDiag s.diag k, trace := s.trace ++ [.setdiag k] } := rfl

/-- Starting the timer. -/
theorem waitStart_spec : waitStart s = { s with tmr := .running, trace := s.trace ++ [.waitstart] } := rfl

/-- Taking the end of the delay. -/
theorem waitDone_spec : waitDone s = { s with tmr := .idle, trace := s.trace ++ [.waitdone] } := rfl

/-- The timer moves from running to done, and only then. -/
theorem timerStep_spec :
    timerStep s = if s.tmr = .running then { s with tmr := .done } else s := by
  cases h : s.tmr <;> simp [timerStep, h, State.setTmr]

/-- Sending the status frame records it with the drawn answer and the error flag it leaves. -/
theorem sendStatus_spec :
    sendStatus s =
      { s with
        txerr := withAnswer s.txerr (drawnAnswer s)
        answer := none
        draws := s.draws + 1
        trace := s.trace ++ [.tx enc (drawnAnswer s)] } := rfl

/-- Accepting a polled frame copies it and enters `CLR`. -/
theorem acceptFrame_spec (m : Frame) : acceptFrame m s = { s with fr := m, ph := .clr } := rfl

/-- Discarding a polled frame copies it and enters `ACK`. -/
theorem discardFrame_spec (m : Frame) : discardFrame m s = { s with fr := m, ph := .ack } := rfl

/-- One display bit is written from the shown pattern. -/
theorem showBit_spec (i : BitVec 2) :
    showBit i s =
      { s with
        disp := withOut s.disp i ((shown s).getLsbD i.toNat)
        trace := s.trace ++ [.setout i ((shown s).getLsbD i.toNat)] } := rfl

/-- A validation's report lights one output, records outcome and output, and returns the outcome. -/
theorem report_spec (o : ValidationOutcome) :
    report o s =
      { s with
        diag := withDiag s.diag (outputOf o)
        trace := s.trace ++ [.setdiag (outputOf o), .valresult o]
        ret := .outcome o } := by
  simp [report, setdiag, State.setDiag, State.emit, State.setRet]

/-- The drawn answer is the supplied one where there is one. -/
@[simp] theorem drawnAnswer_supplied (r : TxAnswer) (h : s.answer = some r) : drawnAnswer s = r := by
  simp [drawnAnswer, h]

/-- The error flag after an answer. -/
theorem withAnswer_eq (e : Bool) (r : TxAnswer) : withAnswer e r = (e || decide (r = .busError)) := by
  cases r <;> simp [withAnswer]

/-- A written output bit reads as written, the other bits as before. -/
theorem getLsbD_withOut (d : BitVec 4) (i : BitVec 2) (v : Bool) (j : Nat) (hj : j < 4) :
    (withOut d i v).getLsbD j = if j = i.toNat then v else d.getLsbD j := by
  revert d i v
  interval_cases j <;> decide

/-- A driven diagnostic bit is lit, the other bits are as before. -/
theorem diagBit_withDiag (d : BitVec 3) (k j : DiagIndex) :
    diagBit (withDiag d k) j = (decide (j = k) || diagBit d j) := by
  revert d
  cases k <;> cases j <;> decide

end Sys2Proof.Machine
end

