-- ==== Sys2Proof/Laws/PerInstr.lean ====
section
/-! SUPPORT. Statements about every operation as syntax, one lemma per constructor. -/

namespace Sys2Proof.Laws.EncodeWidth

/-- The word of an operation has no bit beyond the width of its port (30_encoding.md R71, R75, R76). -/
def Statement (i : Instr) : Prop := (encode i).bits < 2 ^ (encode i).sel.width

/-- A frame word has 79 bits. -/
theorem frame_word (w : BitVec 79) : w.toNat < 2 ^ 79 := w.isLt

theorem status : Statement (.status) := by
  unfold Statement
  decide

theorem rxGroup (f : Frame) : Statement (.rxGroup f) := frame_word _

theorem rxOther (f : Frame) : Statement (.rxOther f) := frame_word _

theorem valAccepted (f : Frame) : Statement (.valAccepted f) := frame_word _

theorem valPayloadMismatch (f : Frame) : Statement (.valPayloadMismatch f) := frame_word _

theorem valLengthMismatch (f : Frame) : Statement (.valLengthMismatch f) := frame_word _

theorem valHeaderMismatch (f : Frame) : Statement (.valHeaderMismatch f) := frame_word _

theorem dec (b : Byte) : Statement (.dec b) := BitVec.isLt _

theorem txchk : Statement (.txchk) := by
  unfold Statement
  decide

theorem delay : Statement (.delay) := by
  unfold Statement
  decide

theorem rxchk : Statement (.rxchk) := by
  unfold Statement
  decide

theorem clr : Statement (.clr) := by
  unfold Statement
  decide

theorem set0 : Statement (.set0) := by
  unfold Statement
  decide

theorem set1 : Statement (.set1) := by
  unfold Statement
  decide

theorem set2 : Statement (.set2) := by
  unfold Statement
  decide

theorem set3 : Statement (.set3) := by
  unfold Statement
  decide

theorem ack : Statement (.ack) := by
  unfold Statement
  decide

theorem validate : Statement (.validate) := by
  unfold Statement
  decide

theorem reset : Statement (.reset) := by
  unfold Statement
  decide

theorem deliver (f : WireFrame) : Statement (.deliver f) := frame_word _

theorem transmit (f : WireFrame) : Statement (.transmit f) := frame_word _

theorem poll : Statement (.poll) := by
  unfold Statement
  decide

theorem clrpend : Statement (.clrpend) := by
  unfold Statement
  decide

theorem btnrd : Statement (.btnrd) := by
  unfold Statement
  decide

theorem setout (k : BitVec 2) (v : Bool) : Statement (.setout k v) := by
  revert k v
  unfold Statement
  decide

theorem clrout : Statement (.clrout) := by
  unfold Statement
  decide

theorem setdiag (k : DiagIndex) : Statement (.setdiag k) := by
  cases k <;> (unfold Statement; decide)

theorem wait (h : WaitHalf) : Statement (.wait h) := by
  cases h <;> (unfold Statement; decide)

theorem enc : Statement (.enc) := by
  unfold Statement
  decide

theorem grpchk (f : Frame) : Statement (.grpchk f) := frame_word _

theorem selbyte (f : Frame) : Statement (.selbyte f) := frame_word _

theorem patbyte (pat : BitVec 4) : Statement (.patbyte pat) := BitVec.isLt _

end Sys2Proof.Laws.EncodeWidth
end

