-- ==== Sys2Proof/Laws/Step.lean ====
section
/-! SUPPORT. What a step does, turn by turn, and the induction over runs. -/

namespace Sys2Proof.Machine

/-- The code on the phase register decodes to the phase's operation. -/
theorem decode_coreWord (s : State) : decode (coreWord s) = .ok (instrOf s.ph) := by
  rcases h : s.ph <;> simp [coreWord, h, Phase.code, decode, phaseInstr, instrOf]

/-- Only phases have a phase, and each its own. -/
theorem phaseOf_eq_some (i : Instr) (p : Phase) (h : phaseOf i = some p) : i = instrOf p := by
  cases i <;> simp [phaseOf] at h <;> subst h <;> rfl

/-- Taking a turn carries out what was fetched for it. -/
theorem step_eq (s : State) : step s = run (takeTurn (nextTurn s).1 (nextTurn s).2) := rfl

/-- A `CORE` turn executes the operation of the phase register. -/
theorem run_core (s : State) : run (takeTurn .core s) = exec (instrOf s.ph) s := by
  simp [takeTurn, run, decode_coreWord]

/-- A validation turn executes `VALIDATE`. -/
theorem run_val (s : State) : run (takeTurn .val s) = exec .validate s := rfl

/-- A reset turn executes `RESET`. -/
theorem run_reset (s : State) : run (takeTurn .reset s) = exec .reset s := rfl

/-- A bus turn executes the delivery its word decodes to, or is refused with the reason. -/
theorem run_bus (fw : Nat) (s : State) :
    run (takeTurn (.bus fw) s) =
      match decode { sel := .reqDeliver, bits := fw } with
      | .ok i => exec i s
      | .error r => .refused (.rejectedWord r) := rfl

/-- With a listed turn, the step takes it. -/
theorem step_cons (s : State) (t : Turn) (rest : List Turn) (h : s.agenda = t :: rest) :
    step s = run (takeTurn t (s.setAgenda rest)) := by
  simp [step_eq, nextTurn, h]

/-- With no listed turn, `CORE` steps where it is not held. -/
theorem step_idle (s : State) (h : s.agenda = []) (hh : coreHeld s = false) :
    step s = exec (instrOf s.ph) s := by
  simp [step_eq, nextTurn, h, hh, run_core]

/-- With no listed turn, the timer completes where `CORE` is held. -/
theorem step_held (s : State) (h : s.agenda = []) (hh : coreHeld s = true) :
    step s = .next (timerStep s) := by
  simp [step_eq, nextTurn, h, hh, takeTurn, run]

/-- A delivered word that decodes is a bus frame of at most eight bytes. -/
theorem decode_deliver (fw : Nat) (i : Instr) (h : decode { sel := .reqDeliver, bits := fw } = .ok i) :
    ∃ f : WireFrame, i = .deliver f ∧ f.data.length ≤ 8 := by
  simp only [decode, wireOperand] at h
  split at h
  · simp at h
  · split at h
    · simp only [Except.ok.injEq] at h
      exact ⟨_, h.symm, by simp [Frame.toWire]⟩
    · simp at h

/-- Everything a step that answers a next state can have done: the turn, and what it carried out on the
state without that turn. -/
theorem step_cases (s t : State) (h : step s = .next t) :
    (turnOf s = .core ∧ exec (instrOf s.ph) (nextTurn s).2 = .next t) ∨
    (∃ fw f, turnOf s = .bus fw ∧ f.data.length ≤ 8 ∧ exec (.deliver f) (nextTurn s).2 = .next t) ∨
    (turnOf s = .val ∧ exec .validate (nextTurn s).2 = .next t) ∨
    (turnOf s = .reset ∧ exec .reset (nextTurn s).2 = .next t) ∨
    (∃ v, turnOf s = .btn v ∧ t = (nextTurn s).2.setBtn v) ∨
    (turnOf s = .tmr ∧ t = timerStep (nextTurn s).2) ∨
    (∃ r, turnOf s = .answer r ∧ t = (nextTurn s).2.setAnswer (some r)) ∨
    (∃ bs, turnOf s = .tail bs ∧ t = (nextTurn s).2.setTail bs) := by
  have hp : (nextTurn s).2.ph = s.ph := by unfold nextTurn; split <;> rfl
  rw [step_eq] at h
  unfold turnOf
  cases hT : (nextTurn s).1 with
  | core =>
    rw [hT, run_core, hp] at h
    exact .inl ⟨rfl, h⟩
  | bus fw =>
    rw [hT, run_bus] at h
    split at h
    · rename_i i hi
      obtain ⟨f, rfl, hf⟩ := decode_deliver fw i hi
      exact .inr (.inl ⟨fw, f, rfl, hf, h⟩)
    · cases h
  | val =>
    rw [hT, run_val] at h
    exact .inr (.inr (.inl ⟨rfl, h⟩))
  | reset =>
    rw [hT, run_reset] at h
    exact .inr (.inr (.inr (.inl ⟨rfl, h⟩)))
  | btn v =>
    rw [hT] at h
    cases h
    exact .inr (.inr (.inr (.inr (.inl ⟨v, rfl, rfl⟩))))
  | tmr =>
    rw [hT] at h
    cases h
    exact .inr (.inr (.inr (.inr (.inr (.inl ⟨rfl, rfl⟩)))))
  | answer r =>
    rw [hT] at h
    cases h
    exact .inr (.inr (.inr (.inr (.inr (.inr (.inl ⟨r, rfl, rfl⟩))))))
  | tail bs =>
    rw [hT] at h
    cases h
    exact .inr (.inr (.inr (.inr (.inr (.inr (.inr ⟨bs, rfl, rfl⟩))))))

/-- Taking the turn off the agenda changes nothing else. -/
theorem nextTurn_frame (s : State) : ∃ ts, (nextTurn s).2 = s.setAgenda ts := by
  unfold nextTurn
  split
  · exact ⟨_, rfl⟩
  · exact ⟨s.agenda, rfl⟩

/-- No steps leave the state as it is. -/
theorem core_run_zero (s : State) : Sys2Proof.core.run 0 s = .next s := rfl

/-- A run whose first step answers goes on from there. -/
theorem core_run_next {n : Nat} {s t : State} (h : step s = .next t) :
    Sys2Proof.core.run (n + 1) s = Sys2Proof.core.run n t := by
  have h' : Sys2Proof.core.step s = .next t := h
  simp only [Host.Core.run, h']

/-- A broken order of events stays broken. -/
theorem foldl_broken (sel : DecodeSel) (es : List Event) : es.foldl (Spot.after sel) .broken = .broken := by
  induction es with
  | nil => rfl
  | cons e es ih => exact ih

/-- Events after a trace are read from where the trace leaves the loop. -/
theorem spotOf_append (sel : DecodeSel) (a b : List Event) :
    spotOf sel (a ++ b) = b.foldl (Spot.after sel) (spotOf sel a) := by
  simp [spotOf]

/-- What holds at s and is kept by every step holds in every state a run from s reaches. -/
theorem Reaches.induction {P : State → Prop} {s t : State} (hs : P s)
    (keep : ∀ u v, P u → step u = .next v → P v) (h : Reaches s t) : P t := by
  induction h with
  | here => exact hs
  | after _ hstep ih => exact keep _ _ ih hstep

end Sys2Proof.Machine
end

