-- ==== Sys2Proof/Tests/Slice0.lean ====
section
/-! SUPPORT. The model's own tests. Expected results come from 95_test_vectors.md (named S and V there) and
from the examples of the rules; words are written out from 30_encoding.md and opcode_table.json. Then a
witness for the hypotheses of every statement that has some. -/

namespace Sys2Proof.Tests

open Sys2Proof Sys2Proof.Machine

/-- The state a step answered, if it answered one. -/
def after (o : Host.Outcome State Fault Refusal) : Option State :=
  match o with
  | .next s => some s
  | .fault _ => none
  | .refused _ => none

/-- Whether a step was refused. -/
def isRefused (o : Host.Outcome State Fault Refusal) : Bool :=
  match o with
  | .next _ => false
  | .fault _ => false
  | .refused _ => true

/-- The reset state in phase p. -/
def standing (p : Phase) : State := { State.reset with ph := p }

/-- The reset state in phase p with frame word w pending in the slot and copied to the working frame. -/
def holding (p : Phase) (w : BitVec 79) : State :=
  { State.reset with ph := p, fr := Frame.ofFW w, slot := Frame.ofFW w, rxpend := true }

/-- `{0x123, 2, [0x0A, 0x0D]}`, its other bytes zero (30_encoding.md R71). -/
def word1 : BitVec 79 := 0x12320A0D000000000000#79

/-- `{26, 1, [0x1A]}`, its other bytes zero (V43). -/
def word2 : BitVec 79 := 0x01A11A00000000000000#79

def wire1 : WireFrame := { id := 0x123#11, data := [0x0A#8, 0x0D#8] }

/-- Eight bytes, the most a frame has. -/
def wire8 : WireFrame := { id := 0x7FF#11, data := [0x0A#8, 1#8, 2#8, 3#8, 4#8, 5#8, 6#8, 7#8] }

/-- Nine bytes, which no frame has. -/
def wire9 : WireFrame := { id := 0#11, data := [0#8, 0#8, 0#8, 0#8, 0#8, 0#8, 0#8, 0#8, 0#8] }

/-! ### WellFormed refuses an ill-formed term of each check -/

theorem test_illformed_rxGroup : Instr.wellFormed (.rxGroup (Frame.ofFW word2)) = false := by decide
theorem test_illformed_rxOther : Instr.wellFormed (.rxOther (Frame.ofFW word1)) = false := by decide
theorem test_illformed_valAccepted_id : Instr.wellFormed (.valAccepted (Frame.ofFW 0x03010400000000000000#79)) = false := by
  decide
theorem test_illformed_valAccepted_length :
    Instr.wellFormed (.valAccepted (Frame.ofFW 0x02620400000000000000#79)) = false := by decide
theorem test_illformed_valAccepted_payload :
    Instr.wellFormed (.valAccepted (Frame.ofFW 0x02611400000000000000#79)) = false := by decide
theorem test_illformed_valPayloadMismatch_id :
    Instr.wellFormed (.valPayloadMismatch (Frame.ofFW 0x42611400000000000000#79)) = false := by decide
theorem test_illformed_valPayloadMismatch_length :
    Instr.wellFormed (.valPayloadMismatch (Frame.ofFW 0x02601400000000000000#79)) = false := by decide
theorem test_illformed_valPayloadMismatch_payload :
    Instr.wellFormed (.valPayloadMismatch (Frame.ofFW 0x02610400000000000000#79)) = false := by decide
theorem test_illformed_valLengthMismatch_id :
    Instr.wellFormed (.valLengthMismatch (Frame.ofFW 0x02520400000000000000#79)) = false := by decide
theorem test_illformed_valLengthMismatch_length :
    Instr.wellFormed (.valLengthMismatch (Frame.ofFW 0x02610400000000000000#79)) = false := by decide
theorem test_illformed_valHeaderMismatch :
    Instr.wellFormed (.valHeaderMismatch (Frame.ofFW 0x02610400000000000000#79)) = false := by decide
theorem test_illformed_deliver : Instr.wellFormed (.deliver wire9) = false := by decide
theorem test_illformed_transmit : Instr.wellFormed (.transmit wire9) = false := by decide

/-! ### Decoding, one word per constructor -/

/-- R72: identifier 0x01A, dataLength 1, first byte 0x0A. -/
theorem test_decode_status : (decode { sel := .fwTx, bits := 0x01A10A00000000000000 }).toOption = some .status := by decide
/-- R73: the first byte is 0x0A. -/
theorem test_decode_rxGroup : (decode { sel := .fwRx, bits := 0x12320A0D000000000000 }).toOption =
    some (.rxGroup ⟨0x123#11, 2#4, 0x0A#8, 0x0D#8, 0#8, 0#8, 0#8, 0#8, 0#8, 0#8⟩) := by decide
/-- R73: the first byte is 0x1A. -/
theorem test_decode_rxOther : (decode { sel := .fwRx, bits := 0x01A11A00000000000000 }).toOption =
    some (.rxOther ⟨0x01A#11, 1#4, 0x1A#8, 0#8, 0#8, 0#8, 0#8, 0#8, 0#8, 0#8⟩) := by decide
/-- V47. -/
theorem test_decode_valAccepted : (decode { sel := .fwVal, bits := 0x02610400000000000000 }).toOption =
    some (.valAccepted ⟨0x026#11, 1#4, 4#8, 0#8, 0#8, 0#8, 0#8, 0#8, 0#8, 0#8⟩) := by decide
/-- V50. -/
theorem test_decode_valPayloadMismatch : (decode { sel := .fwVal, bits := 0x02611400000000000000 }).toOption =
    some (.valPayloadMismatch ⟨0x026#11, 1#4, 0x14#8, 0#8, 0#8, 0#8, 0#8, 0#8, 0#8, 0#8⟩) := by decide
/-- V54. -/
theorem test_decode_valLengthMismatch : (decode { sel := .fwVal, bits := 0x02680400000000000000 }).toOption =
    some (.valLengthMismatch ⟨0x026#11, 8#4, 4#8, 0#8, 0#8, 0#8, 0#8, 0#8, 0#8, 0#8⟩) := by decide
/-- V55. -/
theorem test_decode_valHeaderMismatch : (decode { sel := .fwVal, bits := 0x42610400000000000000 }).toOption =
    some (.valHeaderMismatch ⟨0x426#11, 1#4, 4#8, 0#8, 0#8, 0#8, 0#8, 0#8, 0#8, 0#8⟩) := by decide
/-- R75: `xxxxDCBA`. -/
theorem test_decode_dec : (decode { sel := .db8, bits := 0b00001101 }).toOption = some (.dec 0x0D#8) := by decide
theorem test_decode_txchk : (decode { sel := .ph4, bits := 0b0000 }).toOption = some .txchk := by decide
theorem test_decode_delay : (decode { sel := .ph4, bits := 0b0001 }).toOption = some .delay := by decide
theorem test_decode_rxchk : (decode { sel := .ph4, bits := 0b0010 }).toOption = some .rxchk := by decide
theorem test_decode_clr : (decode { sel := .ph4, bits := 0b0011 }).toOption = some .clr := by decide
theorem test_decode_set0 : (decode { sel := .ph4, bits := 0b0100 }).toOption = some .set0 := by decide
theorem test_decode_set1 : (decode { sel := .ph4, bits := 0b0101 }).toOption = some .set1 := by decide
theorem test_decode_set2 : (decode { sel := .ph4, bits := 0b0110 }).toOption = some .set2 := by decide
theorem test_decode_set3 : (decode { sel := .ph4, bits := 0b0111 }).toOption = some .set3 := by decide
theorem test_decode_ack : (decode { sel := .ph4, bits := 0b1000 }).toOption = some .ack := by decide
/-- R78 (b). -/
theorem test_decode_reserved_phase : (decode { sel := .ph4, bits := 0b1001 }).toOption = none := by decide
theorem test_decode_validate : (decode { sel := .reqValidate, bits := 0b1 }).toOption = some .validate := by decide
theorem test_decode_reset : (decode { sel := .reqReset, bits := 0b1 }).toOption = some .reset := by decide
theorem test_decode_deliver : (decode { sel := .reqDeliver, bits := 0x12320A0D000000000000 }).toOption =
    some (.deliver { id := 0x123#11, data := [0x0A#8, 0x0D#8] }) := by decide
/-- R78 (a): dataLength code 9. -/
theorem test_decode_reserved_length : (decode { sel := .reqDeliver, bits := 0x12390A0D000000000000 }).toOption = none := by
  decide
theorem test_decode_transmit : (decode { sel := .primTransmit, bits := 0x01A10A00000000000000 }).toOption =
    some (.transmit { id := 26#11, data := [10#8] }) := by decide
theorem test_decode_poll : (decode { sel := .primPoll, bits := 0 }).toOption = some .poll := by decide
theorem test_decode_clrpend : (decode { sel := .primClrpend, bits := 0 }).toOption = some .clrpend := by decide
theorem test_decode_btnrd : (decode { sel := .primBtnrd, bits := 0 }).toOption = some .btnrd := by decide
/-- Index 2 in bits 2 and 1, level 1 in bit 0 (`IIV`). -/
theorem test_decode_setout : (decode { sel := .primSetout, bits := 0b101 }).toOption = some (.setout 2#2 true) := by decide
theorem test_decode_clrout : (decode { sel := .primClrout, bits := 0 }).toOption = some .clrout := by decide
theorem test_decode_setdiag : (decode { sel := .primSetdiag, bits := 0b0100 }).toOption = some (.setdiag .d2) := by decide
theorem test_decode_wait_start : (decode { sel := .primWait, bits := 0b01 }).toOption = some (.wait .start) := by decide
theorem test_decode_wait_done : (decode { sel := .primWait, bits := 0b10 }).toOption = some (.wait .done) := by decide
theorem test_decode_enc : (decode { sel := .funcEnc, bits := 0 }).toOption = some .enc := by decide
theorem test_decode_grpchk : (decode { sel := .funcGrpchk, bits := 0x7FF10A00000000000000 }).toOption =
    some (.grpchk ⟨0x7FF#11, 1#4, 0x0A#8, 0#8, 0#8, 0#8, 0#8, 0#8, 0#8, 0#8⟩) := by decide
theorem test_decode_selbyte : (decode { sel := .funcSelbyte, bits := 0x12320A0D000000000000 }).toOption =
    some (.selbyte ⟨0x123#11, 2#4, 0x0A#8, 0x0D#8, 0#8, 0#8, 0#8, 0#8, 0#8, 0#8⟩) := by decide
theorem test_decode_patbyte : (decode { sel := .funcPatbyte, bits := 0b1101 }).toOption = some (.patbyte 0b1101#4) := by
  decide

/-! ### The codec -/

/-- V13. -/
theorem test_enc : (after (exec .enc State.reset)).map State.ret = some (.frame { id := 26#11, data := [10#8] }) := by decide
/-- V6, S10. -/
theorem test_dec_13 : (after (exec (.dec 0x0D#8) State.reset)).map State.ret = some (.pattern 0b1101#4) := by decide
/-- V9. -/
theorem test_dec_high_bits : (after (exec (.dec 0xF0#8) State.reset)).map State.ret = some (.pattern 0b0000#4) := by decide
/-- V15: 26 itself fails. -/
theorem test_grpchk_26 : (after (exec (.grpchk (Frame.ofFW word2)) State.reset)).map State.ret = some (.bit false) := by
  decide
/-- V20: the identifier is not examined. -/
theorem test_grpchk_any_id :
    (after (exec (.grpchk (Frame.ofFW 0x7FF10A00000000000000#79)) State.reset)).map State.ret = some (.bit true) := by decide
/-- V22 under `P1`. -/
theorem test_selbyte_p1 :
    (after (exec (.selbyte (Frame.ofFW word1)) State.reset)).map State.ret = some (.byte 0x0D#8) := by decide
/-- V22 under `P0`. -/
theorem test_selbyte_p0 :
    (after (exec (.selbyte (Frame.ofFW word1)) { State.reset with decodeSel := .p0 })).map State.ret =
      some (.byte 0x0A#8) := by decide
/-- V23. -/
theorem test_patbyte : (after (exec (.patbyte 0b1101#4) State.reset)).map State.ret = some (.byte 13#8) := by decide

/-! ### The gateways -/

/-- R100: the supplied answer is recorded and returned; `TXERR` is the caller's. -/
theorem test_transmit :
    (after (exec (.transmit wire1) { State.reset with answer := some .busError })).map
        (fun t => (t.ret, t.txerr, t.trace)) =
      some (.answer .busError, false, [.reset, .tx wire1 .busError]) := by decide
/-- R33: `tx_err_i` is 1 for `BusError`, 0 for `Ok`, and a supplied draw is what it carries. -/
theorem test_tx_err_port :
    (portsIn .core { State.reset with answer := some .busError }).tx_err_i = 1#1 ∧
    (portsIn .core { State.reset with answer := some .ok }).tx_err_i = 0#1 := by decide
/-- R101, its example. -/
theorem test_poll :
    (after (exec .poll (holding .rxchk word1))).map (fun t => (t.ret, t.rxpend)) =
      some (.polled (some (Frame.ofFW word1)), true) := by decide
/-- V42. -/
theorem test_poll_none :
    (after (exec .poll { holding .rxchk word1 with rxpend := false })).map State.trace = some [.reset, .poll none] := by decide
/-- V27. -/
theorem test_clrpend :
    (after (exec .clrpend (holding .ack word1))).map (fun t => (t.rxpend, t.slot)) =
      some (false, Frame.ofFW word1) := by decide
/-- V26: the overwrite. -/
theorem test_deliver_overwrites :
    (after (exec (.deliver { id := 0x200#11, data := [0x55#8] }) (holding .rxchk word1))).map
        (fun t => (t.slot.id, t.slot.dlc, t.slot.p0, t.rxpend)) = some (0x200#11, 1#4, 0x55#8, true) := by decide
/-- V30: the drawn byte beyond dataLength comes first in the tail. -/
theorem test_deliver_tail :
    (after (exec (.deliver { id := 26#11, data := [0x0A#8] })
        { State.reset with tail := [5#8, 0#8, 0#8, 0#8, 0#8, 0#8, 0#8] })).map State.slot =
      some (Frame.ofFW 0x01A10A05000000000000#79) := by decide
/-- R104. -/
theorem test_btnrd :
    (after (exec .btnrd { State.reset with btn := true })).map (fun t => (t.ret, t.trace)) =
      some (.bit true, [.reset, .btnread true]) := by decide
/-- V28. -/
theorem test_setout_on :
    (after (exec (.setout 2#2 true) { State.reset with disp := 0b0001#4 })).map State.disp = some 0b0101#4 := by decide
/-- R105: the other three bits are kept. -/
theorem test_setout_off :
    (after (exec (.setout 3#2 false) { State.reset with disp := 0b1101#4 })).map State.disp = some 0b0101#4 := by decide
/-- V29, first half. -/
theorem test_clrout :
    (after (exec .clrout { State.reset with disp := 0b1111#4, diag := 0b100#3 })).map (fun t => (t.disp, t.diag)) =
      some (0b0000#4, 0b100#3) := by decide
/-- V29, second half. -/
theorem test_setdiag :
    (after (exec (.setdiag .d2) { State.reset with diag := 0b100#3 })).map State.diag = some 0b110#3 := by decide
/-- R108. -/
theorem test_wait_start :
    (after (exec (.wait .start) State.reset)).map (fun t => (t.tmr, t.trace)) = some (.running, [.reset, .waitstart]) := by
  decide
theorem test_wait_done :
    (after (exec (.wait .done) { State.reset with tmr := .done })).map (fun t => (t.tmr, t.trace)) =
      some (.idle, [.reset, .waitdone]) := by decide

/-! ### The loop -/

/-- V38. -/
theorem test_txchk_no_press :
    (after (exec .txchk State.reset)).map (fun t => (t.ph, t.trace)) = some (.rxchk, [.reset, .btnread false]) := by decide
/-- V40. -/
theorem test_txchk_bus_error :
    (after (exec .txchk { State.reset with btn := true, answer := some .busError })).map
        (fun t => (t.ph, t.tmr, t.txerr, t.trace)) =
      some (.delay, .running, true,
        [.reset, .btnread true, .tx { id := 26#11, data := [10#8] } .busError, .waitstart]) := by decide
/-- V41. -/
theorem test_delay :
    (after (exec .delay { standing .delay with tmr := .done })).map (fun t => (t.ph, t.tmr)) = some (.rxchk, .idle) := by
  decide
theorem test_delay_held :
    after (exec .delay { standing .delay with tmr := .running }) = some { standing .delay with tmr := .running } := by decide
/-- V44, first step. -/
theorem test_rxchk_accepts :
    (after (exec .rxchk { holding .rxchk word1 with fr := Frame.ofFW 0#79 })).map (fun t => (t.ph, t.fr, t.rxpend)) =
      some (.clr, Frame.ofFW word1, true) := by decide
/-- V43, first step. -/
theorem test_rxchk_discards :
    (after (exec .rxchk { holding .rxchk word2 with disp := 0b0110#4 })).map (fun t => (t.ph, t.disp)) =
      some (.ack, 0b0110#4) := by decide
/-- V44, second step. -/
theorem test_clr :
    (after (exec .clr { holding .clr word1 with disp := 0b1111#4 })).map (fun t => (t.ph, t.disp)) =
      some (.set0, 0b0000#4) := by decide
/-- V44, steps three to six. -/
theorem test_set0 :
    (after (exec .set0 (holding .set0 word1))).map (fun t => (t.ph, t.disp)) = some (.set1, 0b0001#4) := by decide
theorem test_set1 :
    (after (exec .set1 { holding .set1 word1 with disp := 0b0001#4 })).map (fun t => (t.ph, t.disp)) =
      some (.set2, 0b0001#4) := by decide
theorem test_set2 :
    (after (exec .set2 { holding .set2 word1 with disp := 0b0001#4 })).map (fun t => (t.ph, t.disp)) =
      some (.set3, 0b0101#4) := by decide
theorem test_set3 :
    (after (exec .set3 { holding .set3 word1 with disp := 0b0101#4 })).map (fun t => (t.ph, t.disp)) =
      some (.ack, 0b1101#4) := by decide
/-- P2 under `P0`: f1 shows 1010. -/
theorem test_set3_p0 :
    (after (exec .set3 { holding .set3 word1 with disp := 0b0010#4, decodeSel := .p0 })).map State.disp =
      some 0b1010#4 := by decide
/-- V43, second step. -/
theorem test_ack :
    (after (exec .ack (holding .ack word2))).map (fun t => (t.ph, t.rxpend, t.trace)) =
      some (.txchk, false, [.reset, .clrpend]) := by decide

/-! ### The frame classes -/

/-- V40: the answer sets `TXERR`. -/
theorem test_status :
    (after (exec .status { State.reset with answer := some .busError })).map (fun t => (t.txerr, t.trace)) =
      some (true, [.reset, .tx { id := 26#11, data := [10#8] } .busError]) := by decide
theorem test_rxGroup :
    (after (exec (.rxGroup (Frame.ofFW word1)) (standing .rxchk))).map (fun t => (t.ph, t.fr)) =
      some (.clr, Frame.ofFW word1) := by decide
theorem test_rxOther :
    (after (exec (.rxOther (Frame.ofFW word2)) (standing .rxchk))).map (fun t => (t.ph, t.fr)) =
      some (.ack, Frame.ofFW word2) := by decide
/-- V47. -/
theorem test_valAccepted :
    (after (exec (.valAccepted (Frame.ofFW 0x02610400000000000000#79)) State.reset)).map (fun t => (t.ret, t.diag)) =
      some (.outcome .accepted, 0b100#3) := by decide
/-- V50. -/
theorem test_valPayloadMismatch :
    (after (exec (.valPayloadMismatch (Frame.ofFW 0x02611400000000000000#79)) State.reset)).map
        (fun t => (t.ret, t.diag)) = some (.outcome .payloadMismatch, 0b001#3) := by decide
/-- V49. -/
theorem test_valLengthMismatch :
    (after (exec (.valLengthMismatch (Frame.ofFW 0x02620400000000000000#79)) State.reset)).map
        (fun t => (t.ret, t.diag)) = some (.outcome .lengthMismatch, 0b010#3) := by decide
/-- V48. -/
theorem test_valHeaderMismatch :
    (after (exec (.valHeaderMismatch (Frame.ofFW 0x03010400000000000000#79)) State.reset)).map
        (fun t => (t.ret, t.diag)) = some (.outcome .headerMismatch, 0b001#3) := by decide

/-! ### The validator, the reset, the boundary -/

/-- V56: wrong in all three fields. -/
theorem test_validate_header_first :
    (after (exec .validate (holding .rxchk 0x7FF20909000000000000#79))).map (fun t => (t.ret, t.diag, t.trace)) =
      some (.outcome .headerMismatch, 0b001#3, [.reset, .setdiag .d1, .valresult .headerMismatch]) := by decide
/-- V57: the whole byte is compared. -/
theorem test_validate_whole_byte :
    (after (exec .validate { holding .rxchk 0x02618400000000000000#79 with diag := 0b110#3 })).map
        (fun t => (t.ret, t.diag, t.rxpend)) = some (.outcome .payloadMismatch, 0b111#3, true) := by decide
/-- V62. -/
theorem test_reset :
    (after (exec .reset { holding .set2 word1 with disp := 0b1111#4, diag := 0b101#3, txerr := true, tmr := .done })).map
        (fun t => (t.ph, t.disp, t.diag, t.txerr, t.rxpend, t.tmr)) =
      some (.txchk, 0b0000#4, 0b000#3, false, false, .idle) := by decide
/-- R183. -/
theorem test_deliver_not_a_frame : isRefused (exec (.deliver wire9) State.reset) = true := by decide
theorem test_step_refuses_reserved_length :
    isRefused (step { State.reset with agenda := [.bus 0x12390A0D000000000000] }) = true := by decide

/-! ### A step, and a table word put where the next step reads it -/

theorem test_step_delivers :
    (after (step { State.reset with agenda := [.bus 0x12320A0D000000000000] })).map
        (fun t => (t.slot.toWire, t.rxpend, t.agenda)) = some (wire1, true, []) := by decide
theorem test_script_rx :
    (State.reset.load [.btn true, .rx wire1 [7#8], .txans .ok, .tmr, .step 2, .val, .reset]).agenda =
      [.btn true, .tail [7#8], .bus 0x12320A0D000000000000, .answer .ok, .tmr, .core, .core, .val, .reset] := by decide
theorem test_table_word_phase : decodeTableWord 8 0b0011 = some .clr := by decide
theorem test_table_word_status : decodeTableWord 80 0x01A10A00000000000000 = some .status := by decide
theorem test_table_word_byte : decodeTableWord 8 0xFD = some (.dec 0xFD#8) := by decide
theorem test_fetch_phase :
    (after (step ({ State.reset with disp := 0b1111#4 }.withFetchWord 8 0b0011))).map (fun t => (t.ph, t.disp)) =
      some (.set0, 0b0000#4) := by decide
theorem test_fetch_delay :
    (after (step (State.reset.withFetchWord 8 0b0001))).map (fun t => (t.ph, t.trace)) =
      some (.rxchk, [.reset, .waitdone]) := by decide
theorem test_fetch_group :
    (after (step (State.reset.withFetchWord 80 0x12320A0D000000000000))).map (fun t => (t.ph, t.fr)) =
      some (.clr, Frame.ofFW word1) := by decide
theorem test_fetch_validator :
    (after (step (State.reset.withFetchWord 80 0x02610400000000000000))).map State.ret =
      some (.outcome .accepted) := by decide
theorem test_fetch_byte :
    (after (step (State.reset.withFetchWord 8 0xFD))).map State.disp = some 0b0001#4 := by decide

/-! ### Witnesses: each names the statement whose hypotheses its state and operands meet -/

/-- A pending frame, accepted, and a turn list long enough for the loop. -/
def ready (ts : List Turn) : State := { holding .rxchk word1 with agenda := ts }

theorem witness_DecodeInvertsEncode :
    Instr.wellFormed (.deliver wire8) = true ∧ Instr.wellFormed (.deliver { id := 0#11, data := [] }) = true ∧
    Instr.wellFormed (.rxGroup (Frame.ofFW word1)) = true ∧ Instr.wellFormed (.rxOther (Frame.ofFW word2)) = true ∧
    Instr.wellFormed (.valAccepted (Frame.ofFW 0x02610400000000000000#79)) = true ∧
    Instr.wellFormed (.valPayloadMismatch (Frame.ofFW 0x02611400000000000000#79)) = true ∧
    Instr.wellFormed (.valLengthMismatch (Frame.ofFW 0x02620400000000000000#79)) = true ∧
    Instr.wellFormed (.valHeaderMismatch (Frame.ofFW 0x02710400000000000000#79)) = true := by decide

theorem witness_DecodedInstructionsAreWellFormed :
    (decode { sel := .reqDeliver, bits := 0x7FF80A01020304050607 }).toOption = some (.deliver wire8) := by decide

theorem witness_ReservedWordsAreRejectedByName :
    9 ≤ (Frame.ofFW 0x12390A00000000000000#79).dlc.toNat ∧ 9 ≤ (Frame.ofFW 0x123F0A00000000000000#79).dlc.toNat ∧
    (decode { sel := .ph4, bits := 9 }).toOption = none ∧
    (decode { sel := .reqDeliver, bits := 2 ^ 79 }).toOption = none := by decide

theorem witness_SelbyteFollowsDecodeSel :
    State.reset.decodeSel = .p1 ∧ { State.reset with decodeSel := .p0 }.decodeSel = .p0 ∧
    (Frame.ofFW word1).p0 = 0x0A#8 := by decide

theorem witness_PatbyteIsInvertedByDec :
    exec (.dec 0xFD#8) State.reset = .next { State.reset with ret := .pattern 0b1101#4 } := rfl

theorem witness_TransmitRecordsItsAnswer :
    wire8.data.length ≤ 8 ∧ (WireFrame.mk 0#11 []).data.length ≤ 8 ∧
    { State.reset with answer := some .ok }.answer = some TxAnswer.ok := by decide

theorem witness_PollCopiesAPendingSlot : (ready []).rxpend = true ∧ State.reset.rxpend = false := by decide

theorem witness_DeliverFillsTheSlot :
    wire8.data.length ≤ 8 ∧ wire8 ∉ { State.reset with filterStops := [wire1] }.filterStops ∧
    wire8.data[7]? = some 7#8 ∧ [5#8][1 - 1]? = some 5#8 := by decide

theorem witness_DeliveryBoundary :
    wire1.data.length ≤ 8 ∧ wire1 ∈ { State.reset with filterStops := [wire1] }.filterStops ∧ 8 < wire9.data.length := by
  decide

theorem witness_BtnrdReturnsTheLevel :
    { State.reset with agenda := [.btn true, .core] }.agenda = .btn true :: [Turn.core] := by decide

theorem witness_WaitHandshake :
    { State.reset with agenda := [.tmr], tmr := .running }.agenda = .tmr :: [] ∧
    { State.reset with agenda := [.tmr], tmr := .running }.tmr = .running ∧
    { State.reset with tmr := .done }.tmr = .done := by decide

theorem witness_StatusIsTransmitted : { State.reset with answer := some .busError }.answer = some TxAnswer.busError := by
  decide

theorem witness_ReceiveCheckRunsTheClassOfTheFrame : (ready []).rxpend = true := by decide

theorem witness_TxchkSendsWhilePressed :
    State.reset.btn = false ∧ { State.reset with btn := true, answer := some .ok }.btn = true ∧
    { State.reset with btn := true, answer := some .ok }.answer = some TxAnswer.ok := by decide

theorem witness_DelayWaitsForTheTimer :
    { standing .delay with tmr := .done }.tmr = .done ∧
    { standing .delay with tmr := .running, agenda := [.tmr] }.tmr = .running ∧
    { standing .delay with tmr := .running, agenda := [.tmr] }.agenda = .tmr :: [] := by decide

theorem witness_RxchkPollsAndChecks :
    (standing .rxchk).rxpend = false ∧
    ((ready []).rxpend = true ∧ (ready []).slot.p0 = 0x0A#8) ∧
    ((holding .rxchk word2).rxpend = true ∧ (holding .rxchk word2).slot.p0 ≠ 0x0A#8) := by decide

theorem witness_SetThreeCompletesThePattern :
    DisplayInv { holding .set3 word1 with disp := 0b0101#4 } ∧
    { holding .set3 word1 with disp := 0b0101#4 }.ph = .set3 := by decide

theorem witness_AckReleasesTheFrame_discarded :
    ∃ t, step { holding .rxchk word2 with agenda := [.core] } = .next t ∧ t.ph = .ack := ⟨_, rfl, rfl⟩

theorem witness_AckReleasesTheFrame_shown :
    ∃ t, step { holding .set3 word1 with agenda := [.core] } = .next t ∧ t.ph = .ack := ⟨_, rfl, rfl⟩

theorem witness_IterationOfAPolledFrame :
    ((ready (List.replicate 7 .core ++ [.val])).ph = .rxchk ∧ (ready (List.replicate 7 .core ++ [.val])).rxpend = true ∧
      (ready (List.replicate 7 .core ++ [.val])).slot.p0 = 0x0A#8) ∧
    ((holding .rxchk word2).ph = .rxchk ∧ (holding .rxchk word2).rxpend = true ∧
      (holding .rxchk word2).slot.p0 ≠ 0x0A#8 ∧
      { holding .rxchk word2 with agenda := [.core, .core] }.agenda = List.replicate 2 Turn.core ++ []) := by decide

/-- The trace of V44 with a validation of the slot and a second delivery in between. -/
def traceShown : List Event :=
  [.reset, .deliver wire1, .btnread false, .poll (some (Frame.ofFW word1)), .clrout, .setout 0#2 true, .deliver wire8,
   .setout 1#2 false, .setout 2#2 true, .setdiag .d1, .valresult .headerMismatch, .setout 3#2 true, .clrpend]

theorem witness_OutputsBetweenPollAndRelease :
    TraceInv { State.reset with trace := traceShown } ∧
    ∃ a b c, traceShown = a ++ .poll (some (Frame.ofFW word1)) :: (b ++ .clrpend :: c) ∧ .clrpend ∉ b ∧ .reset ∉ b := by
  refine ⟨by decide, [.reset, .deliver wire1, .btnread false],
    [.clrout, .setout 0#2 true, .deliver wire8, .setout 1#2 false, .setout 2#2 true, .setdiag .d1,
      .valresult .headerMismatch, .setout 3#2 true], [], rfl, by decide, by decide⟩

/-- A discarded frame, after an earlier iteration that a reset cut short. -/
theorem witness_OutputsBetweenPollAndRelease_discarded :
    TraceInv { State.reset with trace :=
      [.reset, .btnread false, .poll (some (Frame.ofFW word1)), .reset, .btnread false, .poll (some (Frame.ofFW word2)),
        .deliver wire1, .clrpend] } := by decide

theorem witness_TransmitIsFollowedByItsDelay :
    TraceInv { standing .rxchk with trace :=
      [.reset, .btnread true, .tx { id := 26#11, data := [10#8] } .ok, .waitstart, .deliver wire1, .waitdone] } ∧
    TraceInv { standing .delay with trace :=
      [.reset, .btnread true, .tx { id := 26#11, data := [10#8] } .busError, .waitstart] } := by decide

/-- The longest iteration, nine `CORE` steps, and the shortest, two. -/
theorem witness_IterationFollowsThePhaseGraph :
    (iterationSteps { holding .txchk word1 with btn := true } = 8 + 1 ∧
      (holding .txchk word1).ph = .txchk ∧
      .core :: (([Turn.tmr] ++ List.replicate 8 Turn.core) ++ []) =
        [Turn.core, .tmr, .core, .core, .core, .core, .core, .core, .core, .core]) ∧
    (iterationSteps State.reset = 1 + 1 ∧ State.reset.ph = .txchk ∧
      { State.reset with agenda := [.core, .core] }.agenda = .core :: (([] : List Turn) ++ List.replicate 1 .core ++ [])) ∧
    { standing .delay with tmr := .done }.tmr = .done := by decide

theorem witness_IterationFollowsThePhaseGraph_move :
    ∃ t, step State.reset = .next t ∧ t.ph ≠ State.reset.ph := ⟨_, rfl, by decide⟩

theorem witness_CoreIsHeldOnlyByTheTimer :
    TimerInv { standing .delay with tmr := .running, agenda := [.tmr, .core] } ∧ TimerInv State.reset ∧
    State.reset.tmr ≠ .done ∧
    { standing .delay with tmr := .running, agenda := [.tmr, .core] }.agenda = .tmr :: .core :: [] := by decide

theorem witness_ValidateClassifiesTheSlot :
    (Frame.ofFW 0x02710400000000000000#79).id ≠ 0x026#11 ∧
    ((Frame.ofFW 0x02600000000000000000#79).id = 0x026#11 ∧ (Frame.ofFW 0x02600000000000000000#79).dlc ≠ 1#4) ∧
    ((Frame.ofFW 0x02610500000000000000#79).id = 0x026#11 ∧ (Frame.ofFW 0x02610500000000000000#79).dlc = 1#4 ∧
      (Frame.ofFW 0x02610500000000000000#79).p0 ≠ 0x04#8) ∧
    ((Frame.ofFW 0x02610400000000000000#79).id = 0x026#11 ∧ (Frame.ofFW 0x02610400000000000000#79).dlc = 1#4 ∧
      (Frame.ofFW 0x02610400000000000000#79).p0 = 0x04#8) := by decide

theorem witness_ValidateTouchesOnlyDiagnostics : { standing .ack with btn := true }.slot = State.reset.slot := by decide

theorem witness_StepRunsTheDecodedInstruction :
    ({ State.reset with agenda := [.core] }.agenda = .core :: [] ∧
      (decode { sel := .ph4, bits := State.reset.ph.code.toNat }).toOption = some .txchk) ∧
    (State.reset.agenda = [] ∧ ¬ (State.reset.ph = .delay ∧ State.reset.tmr = .running)) ∧
    ({ State.reset with agenda := [.bus 0x12320A0D000000000000, .core] }.agenda = .bus 0x12320A0D000000000000 :: [.core] ∧
      (decode { sel := .reqDeliver, bits := 0x12320A0D000000000000 }).toOption = some (.deliver wire1)) ∧
    { State.reset with agenda := [.val] }.agenda = .val :: [] ∧
    { State.reset with agenda := [.reset] }.agenda = .reset :: [] := by decide

theorem witness_EnvironmentTurns :
    { State.reset with agenda := [.btn false] }.agenda = .btn false :: [] ∧
    { State.reset with agenda := [.tmr] }.agenda = .tmr :: [] ∧
    { State.reset with agenda := [.answer .ok] }.agenda = .answer .ok :: [] ∧
    { State.reset with agenda := [.tail [1#8]] }.agenda = .tail [1#8] :: [] ∧
    ({ standing .delay with tmr := .running }.agenda = [] ∧ { standing .delay with tmr := .running }.ph = .delay ∧
      { standing .delay with tmr := .running }.tmr = .running) := by decide

theorem witness_OnlyANonFrameIsRefused :
    (turnOf { State.reset with agenda := [.bus (2 ^ 79)] } = .bus (2 ^ 79) ∧ 2 ^ 79 ≤ 2 ^ 79) ∧
    (turnOf { State.reset with agenda := [.bus (9 * 2 ^ 64)] } = .bus (9 * 2 ^ 64) ∧
      9 * 2 ^ 64 < 2 ^ 79 ∧ 8 < 9 * 2 ^ 64 / 2 ^ 64 % 16) ∧
    (turnOf { State.reset with agenda := [.bus (8 * 2 ^ 64)] } = .bus (8 * 2 ^ 64) ∧
      ¬ (2 ^ 79 ≤ 8 * 2 ^ 64 ∨ (8 * 2 ^ 64 < 2 ^ 79 ∧ 8 < 8 * 2 ^ 64 / 2 ^ 64 % 16))) ∧
    turnOf State.reset = .core := by decide

theorem witness_EveryStepKeepsTheTimerInvariant :
    TimerInv { State.reset with btn := true, answer := some .ok } ∧
    ∃ t, step { State.reset with btn := true, answer := some .ok } = .next t ∧ t.ph = .delay :=
  ⟨by decide, _, rfl, rfl⟩

theorem witness_EveryStepKeepsTheFramePending :
    PendingInv (ready [.core]) ∧ ∃ t, step (ready [.core]) = .next t ∧ t.ph = .clr := ⟨by decide, _, rfl, rfl⟩

theorem witness_EveryStepKeepsTheDisplayInvariant :
    DisplayInv { holding .set1 word1 with disp := 0b0001#4 } ∧
    ∃ t, step { holding .set1 word1 with disp := 0b0001#4 } = .next t ∧ t.ph = .set2 := ⟨by decide, _, rfl, rfl⟩

theorem witness_EveryStepKeepsTheTraceOnTheGraph :
    TraceInv { State.reset with btn := true, answer := some .ok } ∧
    ∃ t, step { State.reset with btn := true, answer := some .ok } = .next t ∧ t.ph = .delay :=
  ⟨by decide, _, rfl, rfl⟩

/-- A reset changes every register of this state whose reset value the spec gives. -/
theorem witness_OnlyItsWriterChangesARegister_reset :
    ∃ t, step { holding .set2 word1 with
        agenda := [.reset], disp := 0b1111#4, diag := 0b001#3, txerr := true, tmr := .done } = .next t ∧
      t.ph = .txchk ∧ t.disp = 0b0000#4 ∧ t.diag = 0b000#3 ∧ t.txerr = false ∧ t.rxpend = false ∧ t.tmr = .idle :=
  ⟨_, rfl, by decide⟩

theorem witness_OnlyItsWriterChangesARegister :
    (∃ t, step { ready [.core] with fr := Frame.ofFW 0#79 } = .next t ∧ t.ph ≠ .rxchk ∧ t.fr ≠ Frame.ofFW 0#79) ∧
    (∃ t, step { ready [] with ph := .clr, disp := 0b1111#4 } = .next t ∧ t.disp ≠ 0b1111#4) ∧
    (∃ t, step (ready [.val]) = .next t ∧ t.diag ≠ (ready []).diag) ∧
    (∃ t, step { State.reset with btn := true, answer := some .busError } = .next t ∧ t.txerr ≠ false ∧ t.tmr ≠ .idle) ∧
    (∃ t, step { State.reset with agenda := [.bus 0x7FF80A01020304050607] } = .next t ∧
      t.slot ≠ State.reset.slot ∧ t.rxpend ≠ false) ∧
    (∃ t, step { State.reset with agenda := [.btn true] } = .next t ∧ t.btn ≠ false) :=
  ⟨⟨_, rfl, by decide⟩, ⟨_, rfl, by decide⟩, ⟨_, rfl, by decide⟩, ⟨_, rfl, by decide⟩, ⟨_, rfl, by decide⟩, ⟨_, rfl, by decide⟩⟩

theorem witness_StickyUntilReset :
    ∃ t, Reaches { ready [.val] with txerr := true, diag := 0b100#3 } t ∧
      .reset ∉ t.trace.drop { ready [.val] with txerr := true, diag := 0b100#3 }.trace.length ∧
      { ready [.val] with txerr := true, diag := 0b100#3 }.txerr = true ∧ diagBit 0b100#3 .d3 = true :=
  ⟨_, .after .here rfl, by decide⟩

/-- A launch state with other content of `FR`, `SLOT` and `BTN` than State.reset has. -/
theorem witness_InvariantsHoldAtReset :
    ∃ s, s = { State.reset with
        agenda := [.core], decodeSel := .p0, filterStops := [wire1], fr := Frame.ofFW word1, slot := Frame.ofFW word2
        btn := true } ∧
      s.fr ≠ State.reset.fr ∧ s.slot ≠ State.reset.slot ∧ s.btn ≠ State.reset.btn :=
  ⟨_, rfl, by decide⟩

theorem witness_StatusOutputsAreNeverRead : ∃ t, step (ready [.val]) = .next t := ⟨_, rfl⟩

theorem witness_LaterDeliveryOverwrites :
    wire1.data.length ≤ 8 ∧ wire8.data.length ≤ 8 ∧ wire1 ∉ State.reset.filterStops ∧ wire8 ∉ State.reset.filterStops := by
  decide

theorem witness_DeliveryAndReleaseInEitherOrder :
    wire1.data.length ≤ 8 ∧ wire1 ∉ (holding .ack word2).filterStops ∧ (holding .ack word2).ph = .ack ∧
    { holding .ack word2 with agenda := [.bus 0x12320A0D000000000000, .core] }.agenda =
      .bus wire1.toFW.toNat :: .core :: [] ∧
    { holding .ack word2 with agenda := [.core, .bus 0x12320A0D000000000000] }.agenda =
      .core :: .bus wire1.toFW.toNat :: [] := by decide

theorem witness_StrobesOfTheSteps :
    (∃ t, exec .ack State.reset = .next t) ∧ (∃ t, exec .clr State.reset = .next t) ∧
    (∃ t, exec .txchk { State.reset with btn := true } = .next t ∧ { State.reset with btn := true }.btn = true) ∧
    (∃ t, exec .txchk State.reset = .next t ∧ State.reset.btn = false) ∧
    (∃ t, exec .delay { standing .delay with tmr := .running } = .next t) ∧
    (∃ t, exec .rxchk (ready []) = .next t) ∧ ∃ t, exec .validate State.reset = .next t :=
  ⟨⟨_, rfl⟩, ⟨_, rfl⟩, ⟨_, rfl, rfl⟩, ⟨_, rfl, rfl⟩, ⟨_, rfl⟩, ⟨_, rfl⟩, ⟨_, rfl⟩⟩

/-- The four `SET` phases of f1, whose pattern is 1101 (S6). -/
theorem witness_StrobesOfTheSteps_set :
    (∃ t, exec .set0 (holding .set0 word1) = .next t ∧ (portsOut (holding .set0 word1) t).out_o = some (0#2, true)) ∧
    (∃ t, exec .set1 (holding .set1 word1) = .next t ∧ (portsOut (holding .set1 word1) t).out_o = some (1#2, false)) ∧
    (∃ t, exec .set2 (holding .set2 word1) = .next t ∧ (portsOut (holding .set2 word1) t).out_o = some (2#2, true)) ∧
    ∃ t, exec .set3 (holding .set3 word1) = .next t ∧ (portsOut (holding .set3 word1) t).out_o = some (3#2, true) :=
  ⟨⟨_, rfl, by decide⟩, ⟨_, rfl, by decide⟩, ⟨_, rfl, by decide⟩, ⟨_, rfl, by decide⟩⟩

end Sys2Proof.Tests
end

section
/-! The environment's turns: what each of them makes of the state, stated once per turn. -/

namespace Sys2Proof.Machine

/-- A button turn sets the level. -/
theorem run_btn (v : Bool) (s : State) : run (takeTurn (.btn v) s) = .next (s.setBtn v) := rfl

/-- A timer turn is the timer's own step. -/
theorem run_tmr (s : State) : run (takeTurn .tmr s) = .next (timerStep s) := rfl

/-- A supplied answer is kept for the next transmit (log 7). -/
theorem run_answer (r : TxAnswer) (s : State) :
    run (takeTurn (.answer r) s) = .next (s.setAnswer (some r)) := rfl

/-- Supplied tail bytes are kept for the next delivery (log 8). -/
theorem run_tail (bs : List Byte) (s : State) : run (takeTurn (.tail bs) s) = .next (s.setTail bs) := rfl

/-- The timer's step writes `TMR` alone, and its own value back where the timer does not run (log 4). -/
theorem timerStep_eq_setTmr (s : State) :
    timerStep s = s.setTmr (if s.tmr = .running then .done else s.tmr) := by
  rw [timerStep_spec]
  split
  · rfl
  · rfl

/-- A running timer completes. -/
theorem timerStep_running (s : State) (h : s.tmr = .running) : timerStep s = s.setTmr .done := by
  rw [timerStep_eq_setTmr, if_pos h]

/-- `CORE` is held exactly in `DELAY` while the timer runs (42_protocol_loop.md R122). -/
theorem coreHeld_iff (s : State) : coreHeld s = true ↔ s.ph = .delay ∧ s.tmr = .running := by
  simp [coreHeld]

/-- Settles O47: each listed turn by what running it makes of the state without it, and the empty agenda by
the timer's step of a held `CORE`. -/
theorem environmentTurns : Obligations.EnvironmentTurns := by
  intro s rest
  refine ⟨fun v h => ?btn, fun h => ?tmr, fun r h => ?answer, fun bs h => ?tail, fun h hph htmr => ?held⟩
  case btn => exact (step_cons s _ rest h).trans (run_btn v _)
  case tmr => rw [step_cons s _ rest h, run_tmr, timerStep_eq_setTmr]; rfl
  case answer => exact (step_cons s _ rest h).trans (run_answer r _)
  case tail => exact (step_cons s _ rest h).trans (run_tail bs _)
  case held =>
    rw [step_held s h ((coreHeld_iff s).2 ⟨hph, htmr⟩), timerStep_running s htmr]
    rfl

end Sys2Proof.Machine
end

section
/-! What the operations of a step make of the state: one constructor per branch of a phase, one lemma per
branch of a delivery. Proofs about steps split these cases and do not unfold the meanings again. -/

namespace Sys2Proof.Machine

/-- What the step of phase p makes of s, branch by branch (42_protocol_loop.md R121 to R129). -/
inductive CoreStep (s : State) : Phase → State → Prop where
  | released (hb : s.btn = false) :
      CoreStep s .txchk { s with ph := .rxchk, trace := s.trace ++ [.btnread false] }
  | pressed (hb : s.btn = true) :
      CoreStep s .txchk
        { s with
          ph := .delay
          tmr := .running
          txerr := withAnswer s.txerr (drawnAnswer s)
          answer := none
          draws := s.draws + 1
          trace := s.trace ++ [.btnread true, .tx enc (drawnAnswer s), .waitstart] }
  | elapsed (ht : s.tmr = .done) :
      CoreStep s .delay { s with ph := .rxchk, tmr := .idle, trace := s.trace ++ [.waitdone] }
  | held (ht : s.tmr ≠ .done) : CoreStep s .delay s
  | nothingPending (hp : s.rxpend = false) :
      CoreStep s .rxchk { s with ph := .txchk, trace := s.trace ++ [.poll none] }
  | accepted (hp : s.rxpend = true) (hg : grpchk s.slot = true) :
      CoreStep s .rxchk { s with fr := s.slot, ph := .clr, trace := s.trace ++ [.poll (some s.slot)] }
  | discarded (hp : s.rxpend = true) (hg : grpchk s.slot = false) :
      CoreStep s .rxchk { s with fr := s.slot, ph := .ack, trace := s.trace ++ [.poll (some s.slot)] }
  | cleared : CoreStep s .clr { s with disp := 0b0000#4, ph := .set0, trace := s.trace ++ [.clrout] }
  | shown0 :
      CoreStep s .set0
        { s with
          disp := withOut s.disp 0#2 ((shown s).getLsbD 0)
          ph := .set1
          trace := s.trace ++ [.setout 0#2 ((shown s).getLsbD 0)] }
  | shown1 :
      CoreStep s .set1
        { s with
          disp := withOut s.disp 1#2 ((shown s).getLsbD 1)
          ph := .set2
          trace := s.trace ++ [.setout 1#2 ((shown s).getLsbD 1)] }
  | shown2 :
      CoreStep s .set2
        { s with
          disp := withOut s.disp 2#2 ((shown s).getLsbD 2)
          ph := .set3
          trace := s.trace ++ [.setout 2#2 ((shown s).getLsbD 2)] }
  | shown3 :
      CoreStep s .set3
        { s with
          disp := withOut s.disp 3#2 ((shown s).getLsbD 3)
          ph := .ack
          trace := s.trace ++ [.setout 3#2 ((shown s).getLsbD 3)] }
  | acknowledged : CoreStep s .ack { s with rxpend := false, ph := .txchk, trace := s.trace ++ [.clrpend] }

/-- Each branch is what the phase's operation answers. -/
theorem CoreStep.exec_eq {p : Phase} {s t : State} (h : CoreStep s p t) : exec (instrOf p) s = .next t := by
  cases h with
  | released hb => simp [instrOf, exec, execTxchk, btnrd_spec, hb, State.goto]
  | pressed hb =>
    simp [instrOf, exec, execTxchk, btnrd_spec, sendStatus_spec, waitStart_spec, drawnAnswer, hb, State.goto]
  | elapsed ht => simp [instrOf, exec, execDelay, waitDone_spec, ht, State.goto]
  | held ht => simp [instrOf, exec, execDelay, ht]
  | nothingPending hp => simp [instrOf, exec, execRxchk, poll_empty s hp, State.goto]
  | accepted hp hg => simp [instrOf, exec, execRxchk, poll_pending s hp, hg, acceptFrame_spec]
  | discarded hp hg => simp [instrOf, exec, execRxchk, poll_pending s hp, hg, discardFrame_spec]
  | cleared => rfl
  | shown0 => rfl
  | shown1 => rfl
  | shown2 => rfl
  | shown3 => rfl
  | acknowledged => rfl

/-- In every state and phase one of the branches is taken. -/
theorem CoreStep.exists_next (s : State) (p : Phase) : ∃ t, CoreStep s p t := by
  cases p with
  | txchk =>
    cases hb : s.btn with
    | false => exact ⟨_, .released hb⟩
    | true => exact ⟨_, .pressed hb⟩
  | delay =>
    by_cases ht : s.tmr = .done
    · exact ⟨_, .elapsed ht⟩
    · exact ⟨_, .held ht⟩
  | rxchk =>
    cases hp : s.rxpend with
    | false => exact ⟨_, .nothingPending hp⟩
    | true =>
      cases hg : grpchk s.slot with
      | true => exact ⟨_, .accepted hp hg⟩
      | false => exact ⟨_, .discarded hp hg⟩
  | clr => exact ⟨_, .cleared⟩
  | set0 => exact ⟨_, .shown0⟩
  | set1 => exact ⟨_, .shown1⟩
  | set2 => exact ⟨_, .shown2⟩
  | set3 => exact ⟨_, .shown3⟩
  | ack => exact ⟨_, .acknowledged⟩

/-- What the operation of a phase answers is one of the branches. -/
theorem exec_instrOf_iff {p : Phase} {s t : State} : exec (instrOf p) s = .next t ↔ CoreStep s p t := by
  refine ⟨fun h => ?_, CoreStep.exec_eq⟩
  obtain ⟨u, hu⟩ := CoreStep.exists_next s p
  have heq : Host.Outcome.next u = .next t := hu.exec_eq.symm.trans h
  cases heq
  exact hu

/-- A validation reports the class of the slot as it stands (43_validator.md R140, R141). -/
theorem exec_validate (s : State) : exec .validate s = .next (report (outcomeOf s.slot) s) := rfl

/-- A reset writes its registers and records itself (70_reset_and_hazards.md R170). -/
theorem exec_reset (s : State) : exec .reset s = .next ((resetRegisters s).emit .reset) := rfl

/-- A frame the filter passes is delivered (41_gateways.md R103). -/
theorem exec_deliver_passed {f : WireFrame} {s : State} (hf : f.data.length ≤ 8) (hp : filterPass s f = true) :
    exec (.deliver f) s = .next (deliver f s) := by
  simp [exec, execDeliver, hf, hp]

/-- A frame the filter stops only uses up the bytes supplied for it (log 6). -/
theorem exec_deliver_stopped {f : WireFrame} {s : State} (hf : f.data.length ≤ 8) (hp : filterPass s f = false) :
    exec (.deliver f) s = .next (s.setTail []) := by
  simp [exec, execDeliver, hf, hp]

/-- A delivery that answers is of a frame the filter passes or of one it stops. -/
theorem exec_deliver_cases {f : WireFrame} {s t : State} (hf : f.data.length ≤ 8)
    (h : exec (.deliver f) s = .next t) :
    (filterPass s f = true ∧ t = deliver f s) ∨ (filterPass s f = false ∧ t = s.setTail []) := by
  cases hp : filterPass s f with
  | true => exact .inl ⟨rfl, (Host.Outcome.next.inj ((exec_deliver_passed hf hp).symm.trans h)).symm⟩
  | false => exact .inr ⟨rfl, (Host.Outcome.next.inj ((exec_deliver_stopped hf hp).symm.trans h)).symm⟩

/-- What turn T makes of s, the state without the turn. -/
inductive TurnStep (s : State) : Turn → State → Prop where
  | core {t : State} (h : CoreStep s s.ph t) : TurnStep s .core t
  | delivered (fw : Nat) (f : WireFrame) (hf : f.data.length ≤ 8) (hp : filterPass s f = true) :
      TurnStep s (.bus fw) (deliver f s)
  | stopped (fw : Nat) (f : WireFrame) (hf : f.data.length ≤ 8) (hp : filterPass s f = false) :
      TurnStep s (.bus fw) (s.setTail [])
  | validated : TurnStep s .val (report (outcomeOf s.slot) s)
  | restarted : TurnStep s .reset ((resetRegisters s).emit .reset)
  | button (v : Bool) : TurnStep s (.btn v) (s.setBtn v)
  | timer : TurnStep s .tmr (s.setTmr (if s.tmr = .running then .done else s.tmr))
  | answered (r : TxAnswer) : TurnStep s (.answer r) (s.setAnswer (some r))
  | supplied (bs : List Byte) : TurnStep s (.tail bs) (s.setTail bs)

/-- A step that answers is its turn on the state without that turn, which differs in the agenda alone. -/
theorem turnStep_of_step {s t : State} (h : step s = .next t) :
    ∃ ts, TurnStep (s.setAgenda ts) (turnOf s) t := by
  obtain ⟨ts, hts⟩ := nextTurn_frame s
  refine ⟨ts, ?_⟩
  have hcases := step_cases s t h
  rw [hts] at hcases
  obtain ⟨hT, hx⟩ | ⟨fw, f, hT, hf, hx⟩ | ⟨hT, hx⟩ | ⟨hT, hx⟩ | ⟨v, hT, rfl⟩ | ⟨hT, rfl⟩ | ⟨r, hT, rfl⟩ |
    ⟨bs, hT, rfl⟩ := hcases <;> rw [hT]
  · exact .core (exec_instrOf_iff.1 hx)
  · obtain ⟨hp, rfl⟩ | ⟨hp, rfl⟩ := exec_deliver_cases hf hx
    · exact .delivered fw f hf hp
    · exact .stopped fw f hf hp
  · rw [exec_validate] at hx
    cases hx
    exact .validated
  · rw [exec_reset] at hx
    cases hx
    exact .restarted
  · exact .button v
  · rw [timerStep_eq_setTmr]
    exact .timer
  · exact .answered r
  · exact .supplied bs

end Sys2Proof.Machine
end

section
/-! The statements about registers and their writers (10_state.md R20 to R37). -/

namespace Sys2Proof.Machine

/-- Settles O44: the reset state's fields, read off. -/
theorem resetState : Obligations.ResetState := ⟨rfl, rfl, rfl, rfl, rfl, rfl⟩

/-- Settles O46: each turn by what running it is; a phase code decodes to the phase's own operation alone. -/
theorem stepRunsTheDecodedInstruction : Obligations.StepRunsTheDecodedInstruction := by
  intro s rest i
  have hcode : decode { sel := .ph4, bits := s.ph.code.toNat } = .ok i → i = instrOf s.ph :=
    fun h => Except.ok.inj (h.symm.trans (decode_coreWord s))
  refine ⟨fun hs hi => ?core, fun hs hh hi => ?idle, fun fw hs hi => ?bus, fun hs => ?val, fun hs => ?reset⟩
  case core =>
    rw [hcode hi]
    exact (step_cons s _ rest hs).trans (run_core _)
  case idle =>
    rw [hcode hi]
    exact step_idle s hs (Bool.eq_false_iff.2 fun h => hh ((coreHeld_iff s).1 h))
  case bus =>
    rw [step_cons s _ rest hs, run_bus, hi]
    rfl
  case val => exact (step_cons s _ rest hs).trans (run_val _)
  case reset => exact (step_cons s _ rest hs).trans (run_reset _)

/-! ### Writers -/

/-- What the step of a phase writes: `CORE`'s entries in the table of 10_state.md R20. -/
theorem CoreStep.writes {p : Phase} {s t : State} (h : CoreStep s p t) :
    (t.fr ≠ s.fr → p = .rxchk ∧ s.rxpend = true) ∧
    (t.disp ≠ s.disp → p ∈ [Phase.clr, .set0, .set1, .set2, .set3]) ∧
    t.diag = s.diag ∧ (t.txerr ≠ s.txerr → p = .txchk) ∧ t.slot = s.slot ∧
    (t.rxpend ≠ s.rxpend → p = .ack) ∧ (t.tmr ≠ s.tmr → p ∈ [Phase.txchk, .delay]) ∧
    t.btn = s.btn ∧ t.decodeSel = s.decodeSel ∧ t.filterStops = s.filterStops := by
  cases h <;> simp [*]

/-- Settles O54: the writes of each turn, on the state without the turn. -/
theorem onlyItsWriterChangesARegister : Obligations.OnlyItsWriterChangesARegister := by
  intro s t h
  obtain ⟨ts, hturn⟩ := turnStep_of_step h
  generalize turnOf s = T at hturn
  cases hturn with
  | core hc =>
    obtain ⟨hfr, hdisp, hdiag, htxerr, hslot, hrxpend, htmr, hbtn, hsel, hstops⟩ := hc.writes
    exact ⟨fun _ => .inl rfl, fun c => .inl ⟨rfl, hfr c⟩, fun c => .inl ⟨rfl, hdisp c⟩,
      fun c => absurd hdiag c, fun c => .inl ⟨rfl, htxerr c⟩, fun c => absurd hslot c,
      fun c => .inr (.inl ⟨rfl, hrxpend c⟩), fun c => .inr (.inl ⟨rfl, htmr c⟩), fun c => absurd hbtn c, hsel, hstops⟩
  | delivered => simp [deliver_spec]
  | stopped => simp
  | validated => simp [report_spec]
  | restarted => simp [resetRegisters]
  | button => simp
  | timer => simp
  | answered => simp
  | supplied => simp

/-! ### Sticky outputs -/

/-- From s to t the trace only grew, and without a `RESET` among the new events `TXERR` and every diagnostic
output that was 1 is still 1 (10_state.md R24, R25). -/
def KeepsLit (s t : State) : Prop :=
  ∃ es, t.trace = s.trace ++ es ∧ (.reset ∉ es →
    (s.txerr = true → t.txerr = true) ∧ ∀ k, diagBit s.diag k = true → diagBit t.diag k = true)

/-- Nothing happens: no event, no change. -/
theorem KeepsLit.refl (s : State) : KeepsLit s s := ⟨[], by simp⟩

/-- The events of both parts one after the other; no `RESET` among them is none in either. -/
theorem KeepsLit.trans {s t u : State} (h₁ : KeepsLit s t) (h₂ : KeepsLit t u) : KeepsLit s u := by
  obtain ⟨es, hes, hkeep₁⟩ := h₁
  obtain ⟨fs, hfs, hkeep₂⟩ := h₂
  refine ⟨es ++ fs, by rw [hfs, hes, List.append_assoc], fun hno => ?_⟩
  rw [List.mem_append, not_or] at hno
  obtain ⟨htx₁, hdiag₁⟩ := hkeep₁ hno.1
  obtain ⟨htx₂, hdiag₂⟩ := hkeep₂ hno.2
  exact ⟨htx₂ ∘ htx₁, fun k => hdiag₂ k ∘ hdiag₁ k⟩

/-- What writes `TXERR` and `DIAG` upwards only keeps them lit, whatever its events. -/
theorem KeepsLit.of_le {s t : State} (es : List Event) (htr : t.trace = s.trace ++ es)
    (htx : s.txerr = true → t.txerr = true) (hdiag : ∀ k, diagBit s.diag k = true → diagBit t.diag k = true) :
    KeepsLit s t := ⟨es, htr, fun _ => ⟨htx, hdiag⟩⟩

/-- A `CORE` step writes `TXERR` only upwards and `DIAG` not at all. -/
theorem CoreStep.keepsLit {p : Phase} {s t : State} (h : CoreStep s p t) : KeepsLit s t := by
  cases h with
  | held => exact .refl s
  | pressed =>
    refine .of_le _ rfl (fun htx => ?_) fun _ => id
    simp [withAnswer_eq, htx]
  | _ => exact .of_le _ rfl id fun _ => id

/-- Every turn but a reset keeps what is lit; a reset records itself. -/
theorem TurnStep.keepsLit {T : Turn} {s t : State} (h : TurnStep s T t) : KeepsLit s t := by
  cases h with
  | core hc => exact hc.keepsLit
  | delivered fw f => exact .of_le [.deliver f] rfl id fun _ => id
  | validated =>
    rw [report_spec]
    refine .of_le _ rfl id fun k hk => ?_
    simp [diagBit_withDiag, hk]
  | restarted => exact ⟨[.reset], rfl, fun hno => absurd (List.mem_singleton_self _) hno⟩
  | stopped | button | timer | answered | supplied => exact .refl s

/-- Every step keeps what is lit: taking the turn off the agenda touches neither the trace nor an output. -/
theorem step_keepsLit {s t : State} (h : step s = .next t) : KeepsLit s t := by
  obtain ⟨ts, hturn⟩ := turnStep_of_step h
  have hs : KeepsLit s (s.setAgenda ts) := .refl s
  exact hs.trans hturn.keepsLit

/-- Settles O55, by induction over the run. -/
theorem stickyUntilReset : Obligations.StickyUntilReset := by
  intro s t hr hno
  obtain ⟨es, hes, hkeep⟩ : KeepsLit s t :=
    hr.induction (.refl s) fun u v hu huv => hu.trans (step_keepsLit huv)
  rw [hes, List.drop_left] at hno
  exact ⟨⟨es, hes⟩, hkeep hno⟩

/-! ### Outputs that are never read -/

/-- s with other content of the three status outputs. -/
def State.withStatus (s : State) (d : Pattern) (g : BitVec Config.numDiag) (e : Bool) : State :=
  { s with disp := d, diag := g, txerr := e }

/-- m gives each status output a value that depends on that output alone, and nothing else it does depends
on any of them. -/
def ReadsNoStatus (m : State → Host.Outcome State Fault Refusal) : Prop :=
  ∀ s t, m s = .next t →
    ∃ (fd : Pattern → Pattern) (fg : BitVec Config.numDiag → BitVec Config.numDiag) (fe : Bool → Bool),
      ∀ d g e, m (s.withStatus d g e) = .next (t.withStatus (fd d) (fg g) (fe e))

/-- No phase reads a status output: each branch is taken on the same condition and writes the same. -/
theorem readsNoStatus_exec_instrOf (p : Phase) : ReadsNoStatus (exec (instrOf p)) := by
  intro s t h
  cases exec_instrOf_iff.1 h with
  | released hb => exact ⟨id, id, id, fun _ _ _ => CoreStep.exec_eq (.released hb)⟩
  | pressed hb =>
    exact ⟨id, id, (withAnswer · (drawnAnswer s)), fun _ _ _ => CoreStep.exec_eq (.pressed hb)⟩
  | elapsed ht => exact ⟨id, id, id, fun _ _ _ => CoreStep.exec_eq (.elapsed ht)⟩
  | held ht => exact ⟨id, id, id, fun _ _ _ => CoreStep.exec_eq (.held ht)⟩
  | nothingPending hp => exact ⟨id, id, id, fun _ _ _ => CoreStep.exec_eq (.nothingPending hp)⟩
  | accepted hp hg => exact ⟨id, id, id, fun _ _ _ => CoreStep.exec_eq (.accepted hp hg)⟩
  | discarded hp hg => exact ⟨id, id, id, fun _ _ _ => CoreStep.exec_eq (.discarded hp hg)⟩
  | cleared => exact ⟨fun _ => 0b0000#4, id, id, fun _ _ _ => CoreStep.exec_eq .cleared⟩
  | shown0 => exact ⟨(withOut · 0#2 ((shown s).getLsbD 0)), id, id, fun _ _ _ => CoreStep.exec_eq .shown0⟩
  | shown1 => exact ⟨(withOut · 1#2 ((shown s).getLsbD 1)), id, id, fun _ _ _ => CoreStep.exec_eq .shown1⟩
  | shown2 => exact ⟨(withOut · 2#2 ((shown s).getLsbD 2)), id, id, fun _ _ _ => CoreStep.exec_eq .shown2⟩
  | shown3 => exact ⟨(withOut · 3#2 ((shown s).getLsbD 3)), id, id, fun _ _ _ => CoreStep.exec_eq .shown3⟩
  | acknowledged => exact ⟨id, id, id, fun _ _ _ => CoreStep.exec_eq .acknowledged⟩

/-- No delivery reads a status output. -/
theorem readsNoStatus_exec_deliver (f : WireFrame) (hf : f.data.length ≤ 8) :
    ReadsNoStatus (exec (.deliver f)) := by
  intro s t h
  obtain ⟨hp, rfl⟩ | ⟨hp, rfl⟩ := exec_deliver_cases hf h
  · exact ⟨id, id, id, fun _ _ _ => exec_deliver_passed hf hp⟩
  · exact ⟨id, id, id, fun _ _ _ => exec_deliver_stopped hf hp⟩

/-- No turn reads a status output. -/
theorem readsNoStatus_turn (T : Turn) : ReadsNoStatus fun s => run (takeTurn T s) := by
  intro s t h
  cases T with
  | core =>
    simp only [run_core] at h ⊢
    exact readsNoStatus_exec_instrOf s.ph s t h
  | bus fw =>
    simp only [run_bus] at h ⊢
    cases hi : decode { sel := .reqDeliver, bits := fw } with
    | error r => simp [hi] at h
    | ok i =>
      obtain ⟨f, rfl, hf⟩ := decode_deliver fw i hi
      simp only [hi] at h ⊢
      exact readsNoStatus_exec_deliver f hf s t h
  | val =>
    cases h
    exact ⟨id, (withDiag · (outputOf (outcomeOf s.slot))), id, fun _ _ _ => rfl⟩
  | reset =>
    cases h
    exact ⟨fun _ => allOff, fun _ => 0b000#3, fun _ => false, fun _ _ _ => rfl⟩
  | btn v | answer r | tail bs =>
    cases h
    exact ⟨id, id, id, fun _ _ _ => rfl⟩
  | tmr =>
    simp only [run_tmr, timerStep_eq_setTmr] at h ⊢
    cases h
    exact ⟨id, id, id, fun _ _ _ => rfl⟩

/-- The choice of the next turn reads no status output. -/
theorem nextTurn_withStatus (s : State) (d : Pattern) (g : BitVec Config.numDiag) (e : Bool) :
    nextTurn (s.withStatus d g e) = ((nextTurn s).1, (nextTurn s).2.withStatus d g e) := by
  cases hs : s.agenda with
  | nil => simp [nextTurn, State.withStatus, coreHeld, hs]
  | cons T rest => simp [nextTurn, State.withStatus, State.setAgenda, hs]

/-- No step reads a status output. -/
theorem readsNoStatus_step : ReadsNoStatus step := by
  intro s t h
  simp only [step_eq, nextTurn_withStatus] at h ⊢
  exact readsNoStatus_turn _ _ t h

/-- Settles O56: a step makes each status output from that output alone, so the two not varied end as in t. -/
theorem statusOutputsAreNeverRead : Obligations.StatusOutputsAreNeverRead := by
  intro s t h
  obtain ⟨fd, fg, fe, hstep⟩ := readsNoStatus_step s t h
  have ht : t = t.withStatus (fd s.disp) (fg s.diag) (fe s.txerr) :=
    Host.Outcome.next.inj (h.symm.trans (hstep s.disp s.diag s.txerr))
  refine ⟨fun d => ⟨fd d, ?_⟩, fun g => ⟨fg g, ?_⟩, fun e => ⟨fe e, ?_⟩⟩
  · rw [ht]
    exact hstep d s.diag s.txerr
  · rw [ht]
    exact hstep s.disp g s.txerr
  · rw [ht]
    exact hstep s.disp s.diag e

/-! ### Strobes -/

/-- The output ports of a step are raised by the events the step recorded. -/
theorem portsOut_eq {s t : State} {es : List Event} {p : PortsOut} (htr : t.trace = s.trace ++ es)
    (hp : es.foldl (PortsOut.raise s.trace.length) (portsQuiet t) = p) : portsOut s t = p := by
  rw [portsOut, htr, List.drop_left, hp]

/-- The shown pattern has the bits of the displayed byte. -/
theorem getLsbD_shown (s : State) (i : Nat) (h : i < 4) : (shown s).getLsbD i = (displayed s).getLsbD i := by
  rw [shown, getLsbD_dec _ _ h]
  cases hsel : s.decodeSel <;> simp [displayed, selbyte, Frame.byte, hsel]

/-- A step that records one `SETOUT` raises its strobe alone. -/
theorem portsOut_setout {s t : State} {k : BitVec 2}
    (h : t.trace = s.trace ++ [.setout k ((shown s).getLsbD k.toNat)]) :
    portsOut s t = { portsQuiet t with out_o := some (k, (displayed s).getLsbD k.toNat) } := by
  rw [getLsbD_shown s _ k.isLt] at h
  exact portsOut_eq h rfl

/-- Byte 0 stands in bits 63:56 of a data port (10_state.md R33): the seven bytes below it are passed over. -/
theorem extractLsb'_dataWord (g : Fin 8 → Byte) : (dataWord g).extractLsb' 56 8 = g 0 := by
  refine (BitVec.extractLsb'_append_eq_of_le (by decide)).trans ?_
  simp only [BitVec.extractLsb'_append_eq_of_le, BitVec.extractLsb'_eq_self, Nat.reduceLeDiff, Nat.reduceSub]

/-- The transmitter's ports carry the status frame, whatever fills the bytes beyond its dataLength
(30_encoding.md R72). -/
theorem txPorts_enc (n : Nat) :
    ∃ data : BitVec 64, data.extractLsb' 56 8 = 10#8 ∧ txPorts n enc = (26#11, 1#4, data) :=
  ⟨_, extractLsb'_dataWord _, rfl⟩

/-- Settles O59: each branch of a phase, and a validation, by the strobes of the events it records. -/
theorem strobesOfTheSteps : Obligations.StrobesOfTheSteps := by
  intro s
  refine ⟨fun t h => ?ack, fun t h => ?clr, fun t h => ?set0, fun t h => ?set1, fun t h => ?set2, fun t h => ?set3,
    fun t h hb => ?pressed, fun t h hb => ?released, fun t h => ?delay, fun t h => ?rxchk, fun t h => ?validate⟩
  case ack =>
    cases (exec_instrOf_iff (p := .ack)).1 h
    exact portsOut_eq rfl rfl
  case clr =>
    cases (exec_instrOf_iff (p := .clr)).1 h
    exact portsOut_eq rfl rfl
  case set0 =>
    cases (exec_instrOf_iff (p := .set0)).1 h
    exact portsOut_setout rfl
  case set1 =>
    cases (exec_instrOf_iff (p := .set1)).1 h
    exact portsOut_setout rfl
  case set2 =>
    cases (exec_instrOf_iff (p := .set2)).1 h
    exact portsOut_setout rfl
  case set3 =>
    cases (exec_instrOf_iff (p := .set3)).1 h
    exact portsOut_setout rfl
  case pressed =>
    cases (exec_instrOf_iff (p := .txchk)).1 h with
    | released hb' => simp [hb] at hb'
    | pressed _ =>
      obtain ⟨data, hbyte, hports⟩ := txPorts_enc s.trace.length
      refine ⟨data, drawnAnswer s, hbyte, ?_, rfl, fun _ => rfl⟩
      rw [← hports]
      exact portsOut_eq rfl rfl
  case released =>
    cases (exec_instrOf_iff (p := .txchk)).1 h with
    | released _ => exact portsOut_eq rfl rfl
    | pressed hb' => simp [hb] at hb'
  case delay =>
    cases (exec_instrOf_iff (p := .delay)).1 h with
    | elapsed _ => exact portsOut_eq rfl rfl
    | held _ => exact portsOut_eq (List.append_nil _).symm rfl
  case rxchk =>
    cases (exec_instrOf_iff (p := .rxchk)).1 h with
    | nothingPending _ | accepted _ _ | discarded _ _ => exact portsOut_eq rfl rfl
  case validate =>
    cases h
    rw [report_spec]
    exact ⟨outcomeOf s.slot, rfl, portsOut_eq rfl rfl⟩

end Sys2Proof.Machine
end

section
/-! The statements about the receive slot and about the place of a validation among the loop's steps
(20_memory.md R57, R60). -/

namespace Sys2Proof.Machine

/-! ### A validation among `CORE` steps -/

/-- The events a validation of outcome o records (43_validator.md R141). -/
def reportEvents (o : ValidationOutcome) : List Event := [.setdiag (outputOf o), .valresult o]

/-- s with other content of what a validation writes: the diagnostics, the result and the trace. -/
def State.withReport (s : State) (g : BitVec Config.numDiag) (r : Ret) (es : List Event) : State :=
  { s with diag := g, ret := r, trace := es }

/-- A report writes nothing but the three. -/
theorem report_eq_withReport (o : ValidationOutcome) (s : State) :
    report o s = s.withReport (withDiag s.diag (outputOf o)) (.outcome o) (s.trace ++ reportEvents o) :=
  report_spec s o

/-- A `CORE` step reads none of what a validation writes, and of it writes the trace alone: it appends the same
events to any trace. -/
theorem CoreStep.withReport {p : Phase} {s t : State} (h : CoreStep s p t) :
    ∃ es, t.trace = s.trace ++ es ∧ ∀ g r tr, CoreStep (s.withReport g r tr) p (t.withReport g r (tr ++ es)) := by
  cases h with
  | released hb => exact ⟨_, rfl, fun _ _ _ => .released hb⟩
  | pressed hb => exact ⟨_, rfl, fun _ _ _ => .pressed hb⟩
  | elapsed ht => exact ⟨_, rfl, fun _ _ _ => .elapsed ht⟩
  | held ht =>
    refine ⟨[], (List.append_nil _).symm, fun g r tr => ?_⟩
    rw [List.append_nil]
    exact .held ht
  | nothingPending hp => exact ⟨_, rfl, fun _ _ _ => .nothingPending hp⟩
  | accepted hp hg => exact ⟨_, rfl, fun _ _ _ => .accepted hp hg⟩
  | discarded hp hg => exact ⟨_, rfl, fun _ _ _ => .discarded hp hg⟩
  | cleared => exact ⟨_, rfl, fun _ _ _ => .cleared⟩
  | shown0 => exact ⟨_, rfl, fun _ _ _ => .shown0⟩
  | shown1 => exact ⟨_, rfl, fun _ _ _ => .shown1⟩
  | shown2 => exact ⟨_, rfl, fun _ _ _ => .shown2⟩
  | shown3 => exact ⟨_, rfl, fun _ _ _ => .shown3⟩
  | acknowledged => exact ⟨_, rfl, fun _ _ _ => .acknowledged⟩

/-- Settles O42: the loop step v of s writes neither the slot nor the diagnostics, so the validation makes the
same report of v as of s; and the loop step reads nothing of that report. -/
theorem validationCommutesWithTheLoop : Obligations.ValidationCommutesWithTheLoop := by
  intro s p
  obtain ⟨v, hv⟩ := CoreStep.exists_next s p
  obtain ⟨es, htrace, hcomm⟩ := hv.withReport
  obtain ⟨-, -, hdiag, -, hslot, -⟩ := hv.writes
  have hafter := (hcomm (withDiag s.diag (outputOf (outcomeOf s.slot))) (.outcome (outcomeOf s.slot))
    (s.trace ++ reportEvents (outcomeOf s.slot))).exec_eq
  rw [← report_eq_withReport] at hafter
  refine ⟨_, _, v, _, es, reportEvents (outcomeOf s.slot), exec_validate s, hafter, hv.exec_eq, exec_validate v,
    List.append_assoc .., ?_, ?_⟩
  · rw [hslot, report_eq_withReport, htrace]
    exact List.append_assoc ..
  · rw [hslot, report_eq_withReport, hdiag]
    rfl

/-! ### Two deliveries -/

/-- A frame that is not among the stopped ones passes the filter (41_gateways.md R110). -/
theorem filterPass_of_notMem {s : State} {f : WireFrame} (h : f ∉ s.filterStops) : filterPass s f = true := by
  simp [filterPass, h]

/-- A delivery reads nothing of the slot it fills. -/
theorem deliver_setSlot (g : WireFrame) (s : State) (x : Frame) : deliver g (s.setSlot x) = deliver g s := rfl

/-- Of two deliveries the later fills the slot; of the earlier only the event and the draws are left. -/
theorem deliver_deliver (f g : WireFrame) (s : State) :
    deliver g (deliver f s) =
      { s with
        slot := (deliver g (deliver f s)).slot
        rxpend := true
        tail := []
        draws := (deliver g (deliver f s)).draws
        trace := s.trace ++ [.deliver f, .deliver g] } := by
  simp [deliver_spec]

/-- Settles O57: the filter lets g pass after f as before, and the slot is what the delivery of g makes it. -/
theorem laterDeliveryOverwrites : Obligations.LaterDeliveryOverwrites := by
  intro f g s hf hg hfs hgs
  have hpass : filterPass (deliver f s) g = true := filterPass_of_notMem hgs
  refine ⟨_, _, exec_deliver_passed hf (filterPass_of_notMem hfs), exec_deliver_passed hg hpass,
    rfl, WireFrame.toFrame_dlc g hg _, fun j b hb => ?_, rfl, deliver_deliver f g s, fun x => ?_⟩
  · simp [deliver_spec, hb]
  · rw [← deliver_setSlot g (deliver f s) x]
    exact exec_deliver_passed hg hpass

end Sys2Proof.Machine
end

section
/-! The frame word (30_encoding.md R71): reading and spelling a frame register are inverse, and a mask over whole
fields compares those fields. -/

namespace Sys2Proof

/-- The frame word read as the ten fields side by side, its width the sum of theirs. -/
theorem Frame.extractLsb'_toFW (f : Frame) (start len : Nat) :
    f.toFW.extractLsb' start len =
      (f.id ++ f.dlc ++ f.p0 ++ f.p1 ++ f.p2 ++ f.p3 ++ f.p4 ++ f.p5 ++ f.p6 ++ f.p7).extractLsb' start len := rfl

/-- Reading the frame word of a register gives the register back: each field is found by passing over the fields
that stand below it. -/
@[simp] theorem Frame.ofFW_toFW (f : Frame) : Frame.ofFW f.toFW = f := by
  simp only [Frame.ofFW, Frame.extractLsb'_toFW, BitVec.extractLsb'_append_eq_of_le,
    BitVec.extractLsb'_append_eq_of_add_le, BitVec.extractLsb'_eq_self, Nat.reduceLeDiff, Nat.reduceAdd, Nat.reduceSub]

/-- Every frame word is the word of the register it spells: its ten fields stand next to each other and cover
all 79 bits. -/
@[simp] theorem Frame.toFW_ofFW (w : BitVec 79) : (Frame.ofFW w).toFW = w := by
  simp only [Frame.ofFW, Frame.toFW, BitVec.extractLsb'_append_extractLsb'_eq_extractLsb']
  exact BitVec.extractLsb'_eq_self

/-- Different registers have different frame words. -/
@[simp] theorem Frame.toFW_inj {f g : Frame} : f.toFW = g.toFW ↔ f = g :=
  (Function.LeftInverse.injective Frame.ofFW_toFW).eq_iff

/-- The conjunction of two frame words is taken field by field. -/
theorem Frame.toFW_and_toFW (f g : Frame) :
    f.toFW &&& g.toFW =
      Frame.toFW ⟨f.id &&& g.id, f.dlc &&& g.dlc, f.p0 &&& g.p0, f.p1 &&& g.p1, f.p2 &&& g.p2, f.p3 &&& g.p3,
        f.p4 &&& g.p4, f.p5 &&& g.p5, f.p6 &&& g.p6, f.p7 &&& g.p7⟩ := by
  simp only [Frame.toFW, ← BitVec.and_append]

/-- A word with the head fields alone is the frame word of a register whose other bytes are zero. -/
theorem headWord_eq_toFW (id : BitVec Config.idW) (dlc : BitVec 4) (p0 : Byte) :
    headWord id dlc p0 = Frame.toFW ⟨id, dlc, p0, 0#8, 0#8, 0#8, 0#8, 0#8, 0#8, 0#8⟩ := by
  have hfields : Frame.ofFW (headWord id dlc p0) = ⟨id, dlc, p0, 0#8, 0#8, 0#8, 0#8, 0#8, 0#8, 0#8⟩ := by
    have hsum (start len : Nat) : (headWord id dlc p0).extractLsb' start len =
        (id ++ dlc ++ p0 ++ 0#56).extractLsb' start len := rfl
    simp only [Frame.ofFW, hsum, BitVec.extractLsb'_append_eq_of_le, BitVec.extractLsb'_append_eq_of_add_le,
      BitVec.extractLsb'_eq_self, BitVec.extractLsb'_zero, Nat.reduceLeDiff, Nat.reduceAdd, Nat.reduceSub]
  rw [← hfields, Frame.toFW_ofFW]

/-- A frame word under a mask over the head fields matches where each of the three fields does. -/
theorem Frame.toFW_and_headWord_eq_iff (f : Frame) (idMask id : BitVec 11) (dlcMask dlc : BitVec 4)
    (p0Mask p0 : Byte) :
    f.toFW &&& headWord idMask dlcMask p0Mask = headWord id dlc p0 ↔
      f.id &&& idMask = id ∧ f.dlc &&& dlcMask = dlc ∧ f.p0 &&& p0Mask = p0 := by
  simp [headWord_eq_toFW, Frame.toFW_and_toFW]

/-- The mask of R73 compares the first byte whole. -/
theorem Frame.toFW_matches_p0_iff (f : Frame) :
    f.toFW &&& 0x0000FF00000000000000#79 = 0x00000A00000000000000#79 ↔ f.p0 = 0x0A#8 :=
  (f.toFW_and_headWord_eq_iff 0#11 0#11 0#4 0#4 (BitVec.allOnes 8) 0x0A#8).trans
    (by simp only [BitVec.and_allOnes, BitVec.and_zero, true_and])

/-- The mask of R74 row 3 compares the identifier. -/
theorem Frame.toFW_matches_id_iff (f : Frame) :
    f.toFW &&& 0x7FF00000000000000000#79 = 0x02600000000000000000#79 ↔ f.id = 0x026#11 :=
  (f.toFW_and_headWord_eq_iff (BitVec.allOnes 11) 0x026#11 0#4 0#4 0#8 0#8).trans
    (by simp only [BitVec.and_allOnes, BitVec.and_zero, and_true])

/-- The mask of R74 row 2 compares the identifier and dataLength. -/
theorem Frame.toFW_matches_id_dlc_iff (f : Frame) :
    f.toFW &&& 0x7FFF0000000000000000#79 = 0x02610000000000000000#79 ↔ f.id = 0x026#11 ∧ f.dlc = 1#4 :=
  (f.toFW_and_headWord_eq_iff (BitVec.allOnes 11) 0x026#11 (BitVec.allOnes 4) 1#4 0#8 0#8).trans
    (by simp only [BitVec.and_allOnes, BitVec.and_zero, and_true])

/-- The mask of R74 row 1 compares the identifier, dataLength and the first byte. -/
theorem Frame.toFW_matches_id_dlc_p0_iff (f : Frame) :
    f.toFW &&& 0x7FFFFF00000000000000#79 = 0x02610400000000000000#79 ↔
      f.id = 0x026#11 ∧ f.dlc = 1#4 ∧ f.p0 = 0x04#8 :=
  (f.toFW_and_headWord_eq_iff (BitVec.allOnes 11) 0x026#11 (BitVec.allOnes 4) 1#4 (BitVec.allOnes 8) 0x04#8).trans
    (by simp only [BitVec.and_allOnes])

end Sys2Proof
end

section
/-! What the decoder makes of a frame word on each of its paths (30_encoding.md R70 to R78), stated for the frame
register the word spells. -/

namespace Sys2Proof

/-- A frame word has 79 bits. -/
@[simp] theorem frameBits_toFW (f : Frame) : frameBits f.toFW.toNat = .ok f.toFW := by
  simp [frameBits, f.toFW.isLt]

/-- A number is the frame word of a register, or it has more than 79 bits and is rejected for that. -/
theorem eq_toFW_or_frameBits_error (n : Nat) :
    (∃ f : Frame, n = f.toFW.toNat) ∨ frameBits n = .error .frameWiderThan79Bits := by
  by_cases h : n < 2 ^ 79
  · refine .inl ⟨Frame.ofFW (BitVec.ofNat 79 n), ?_⟩
    rw [Frame.toFW_ofFW, BitVec.toNat_ofNat, Nat.mod_eq_of_lt h]
  · exact .inr (if_neg h)

/-- What a list of rows gives a word is the class of one of its rows. -/
theorem exists_row_of_firstMatch {rows : List FwRow} {w : BitVec 79} {i : Instr} (h : firstMatch rows w = some i) :
    ∃ r ∈ rows, i = r.instr (Frame.ofFW w) := by
  induction rows with
  | nil => cases h
  | cons r rest ih =>
    by_cases hw : w &&& r.mask = r.bits
    · rw [firstMatch, if_pos hw] at h
      exact ⟨r, List.mem_cons_self, (Option.some.inj h).symm⟩
    · rw [firstMatch, if_neg hw] at h
      obtain ⟨q, hq, hi⟩ := ih h
      exact ⟨q, List.mem_cons_of_mem _ hq, hi⟩

/-- A frame word is classified by the first row it matches. -/
theorem classify_toFW {rows : List FwRow} {f : Frame} {i : Instr} (h : firstMatch rows f.toFW = some i) :
    classify rows f.toFW.toNat = .ok i := by
  simp [classify, h]

/-- A word that a list of rows classifies is the frame word of a register, and matches a row. -/
theorem exists_toFW_of_classify {rows : List FwRow} {n : Nat} {i : Instr} (h : classify rows n = .ok i) :
    ∃ f : Frame, n = f.toFW.toNat ∧ firstMatch rows f.toFW = some i := by
  obtain ⟨f, rfl⟩ | he := eq_toFW_or_frameBits_error n
  · refine ⟨f, rfl, ?_⟩
    cases hm : firstMatch rows f.toFW with
    | none => simp [classify, hm] at h
    | some j => rw [← Except.ok.inj ((classify_toFW hm).symm.trans h)]
  · simp [classify, he] at h

/-- A word read as a register operand is of a frame register. -/
theorem exists_frame_of_frameOperand {op : Frame → Instr} {n : Nat} {i : Instr} (h : frameOperand op n = .ok i) :
    ∃ f : Frame, i = op f := by
  obtain ⟨f, rfl⟩ | he := eq_toFW_or_frameBits_error n
  · exact ⟨f, by simpa [frameOperand] using h.symm⟩
  · simp [frameOperand, he] at h

/-- A frame word read as a bus frame: the frame the register spells, unless its dataLength code is reserved. -/
theorem wireOperand_toFW (op : WireFrame → Instr) (f : Frame) :
    wireOperand op f.toFW.toNat =
      if f.dlc.toNat ≤ 8 then .ok (op f.toWire) else .error .reservedDataLength := by
  simp [wireOperand]

/-- The bus frame a register spells has at most eight bytes, since it is cut from eight. -/
theorem Frame.length_toWire_le (f : Frame) : f.toWire.data.length ≤ 8 := by
  simp [Frame.toWire]

/-- A word read as a bus frame has at most eight payload bytes. -/
theorem exists_wire_of_wireOperand {op : WireFrame → Instr} {n : Nat} {i : Instr} (h : wireOperand op n = .ok i) :
    ∃ f : WireFrame, i = op f ∧ f.data.length ≤ 8 := by
  obtain ⟨f, rfl⟩ | he := eq_toFW_or_frameBits_error n
  · rw [wireOperand_toFW] at h
    split at h
    · cases h
      exact ⟨_, rfl, f.length_toWire_le⟩
    · cases h
  · simp [wireOperand, he] at h

/-- A plain operation is read as itself. -/
theorem eq_of_plain {i j : Instr} {n : Nat} (h : plain i n = .ok j) : j = i := by
  unfold plain at h
  split at h
  · exact (Except.ok.inj h).symm
  · cases h

/-- A raised request line is read as its own request. -/
theorem eq_of_request {i j : Instr} {n : Nat} (h : request i n = .ok j) : j = i := by
  unfold request at h
  split at h
  · exact (Except.ok.inj h).symm
  · cases h

/-! ### The loop path -/

/-- The class of a frame on the loop path (30_encoding.md R73). -/
def loopClass (f : Frame) : Instr := if Machine.grpchk f then .rxGroup f else .rxOther f

/-- The loop path reads a word by the two rows of R73. -/
theorem decode_fwRx_rows (f : Frame) :
    decode { sel := .fwRx, bits := f.toFW.toNat } =
      .ok (if f.toFW &&& 0x0000FF00000000000000#79 = 0x00000A00000000000000#79 then .rxGroup f else .rxOther f) := by
  refine classify_toFW ?_
  simp only [loopRows_eq, firstMatch, Frame.ofFW_toFW, BitVec.and_zero, if_true]
  split_ifs <;> rfl

/-- The loop path reads a frame's word as the frame's class. -/
theorem decode_fwRx (f : Frame) : decode { sel := .fwRx, bits := f.toFW.toNat } = .ok (loopClass f) := by
  simp only [decode_fwRx_rows, f.toFW_matches_p0_iff, loopClass, Machine.grpchk_iff]

/-- A frame is well formed in its own class. -/
theorem wellFormed_loopClass (f : Frame) : (loopClass f).wellFormed = true := by
  unfold loopClass
  split
  case isTrue h => simpa [Instr.wellFormed] using (Machine.grpchk_iff f).1 h
  case isFalse h => simpa [Instr.wellFormed] using mt (Machine.grpchk_iff f).2 h

/-! ### The validator path -/

/-- The class of frames that a validation outcome is given to (30_encoding.md R74). -/
def validatorClass : ValidationOutcome → Frame → Instr
  | .headerMismatch => .valHeaderMismatch
  | .lengthMismatch => .valLengthMismatch
  | .payloadMismatch => .valPayloadMismatch
  | .accepted => .valAccepted

/-- The validator path reads a word by the four rows of R74. -/
theorem decode_fwVal_rows (f : Frame) :
    decode { sel := .fwVal, bits := f.toFW.toNat } =
      .ok (if f.toFW &&& 0x7FFFFF00000000000000#79 = 0x02610400000000000000#79 then .valAccepted f
        else if f.toFW &&& 0x7FFF0000000000000000#79 = 0x02610000000000000000#79 then .valPayloadMismatch f
        else if f.toFW &&& 0x7FF00000000000000000#79 = 0x02600000000000000000#79 then .valLengthMismatch f
        else .valHeaderMismatch f) := by
  refine classify_toFW ?_
  simp only [validatorRows_eq, firstMatch, Frame.ofFW_toFW, BitVec.and_zero, if_true]
  split_ifs <;> rfl

/-- The tests in their order, as the class of the frame. -/
theorem validatorClass_outcomeOf (f : Frame) :
    validatorClass (Machine.outcomeOf f) f =
      if f.id ≠ 0x026#11 then .valHeaderMismatch f
      else if f.dlc ≠ 1#4 then .valLengthMismatch f
      else if f.p0 ≠ 0x04#8 then .valPayloadMismatch f
      else .valAccepted f := by
  simp only [Machine.outcomeOf, Frame.byte, Config.valId, Config.valLen, Config.valPayload_eq]
  split_ifs <;> rfl

/-- The validator path reads a frame's word as the class of the outcome its tests give: a row that looks at more
fields is reached by a frame that passes the tests of those fields. -/
theorem decode_fwVal (f : Frame) :
    decode { sel := .fwVal, bits := f.toFW.toNat } = .ok (validatorClass (Machine.outcomeOf f) f) := by
  rw [decode_fwVal_rows, validatorClass_outcomeOf]
  simp only [f.toFW_matches_id_iff, f.toFW_matches_id_dlc_iff, f.toFW_matches_id_dlc_p0_iff]
  by_cases hid : f.id = 0x026#11
  · by_cases hdlc : f.dlc = 1#4
    · by_cases hp0 : f.p0 = 0x04#8 <;> simp [hid, hdlc, hp0]
    · simp [hid, hdlc]
  · simp [hid]

/-- A frame is well formed in the class of its own outcome. -/
theorem wellFormed_validatorClass (f : Frame) : (validatorClass (Machine.outcomeOf f) f).wellFormed = true := by
  rw [validatorClass_outcomeOf]
  by_cases hid : f.id = 0x026#11
  · by_cases hdlc : f.dlc = 1#4
    · by_cases hp0 : f.p0 = 0x04#8 <;> simp [hid, hdlc, hp0, Instr.wellFormed, Config.valId, Config.valLen]
    · simp [hid, hdlc, Instr.wellFormed, Config.valId, Config.valLen]
  · simp [hid, Instr.wellFormed, Config.valId]

end Sys2Proof
end

section
/-! The statements about the encoding (30_encoding.md). -/

namespace Sys2Proof.Machine

/-- Settles O3: the fields of the frame word are those of the register it reads as. -/
theorem frameWordPlacesEveryField : Obligations.FrameWordPlacesEveryField := by
  refine ⟨fun f => ?_, Frame.toFW_ofFW, rfl⟩
  have h := f.ofFW_toFW
  exact ⟨congrArg Frame.id h, congrArg Frame.dlc h, congrArg Frame.p0 h, congrArg Frame.p1 h, congrArg Frame.p2 h,
    congrArg Frame.p3 h, congrArg Frame.p4 h, congrArg Frame.p5 h, congrArg Frame.p6 h, congrArg Frame.p7 h, h⟩

/-- Settles O2, port by port: a frame is well formed in the class its path gives it, a bus frame is cut from eight
bytes, and every other operation is well formed as it stands. -/
theorem decodedInstructionsAreWellFormed : Obligations.DecodedInstructionsAreWellFormed := by
  rintro ⟨sel, n⟩ i h
  cases sel with
  | fwTx =>
    obtain ⟨f, rfl, hm⟩ := exists_toFW_of_classify h
    obtain ⟨r, hr, rfl⟩ := exists_row_of_firstMatch hm
    rw [List.mem_singleton.1 hr]
    rfl
  | fwRx =>
    obtain ⟨f, rfl, -⟩ := exists_toFW_of_classify h
    rw [decode_fwRx] at h
    cases h
    exact wellFormed_loopClass f
  | fwVal =>
    obtain ⟨f, rfl, -⟩ := exists_toFW_of_classify h
    rw [decode_fwVal] at h
    cases h
    exact wellFormed_validatorClass f
  | reqDeliver | primTransmit =>
    obtain ⟨f, rfl, hf⟩ := exists_wire_of_wireOperand h
    exact f.wellFormed_iff.2 hf
  | reqValidate | reqReset =>
    rw [eq_of_request h]
    rfl
  | primPoll | primClrpend | primBtnrd | primClrout | funcEnc =>
    rw [eq_of_plain h]
    rfl
  | funcGrpchk | funcSelbyte =>
    obtain ⟨f, rfl⟩ := exists_frame_of_frameOperand h
    rfl
  | db8 | funcPatbyte | primSetout =>
    simp only [decode, setoutOperand] at h
    split at h
    · cases h
      rfl
    · cases h
  | ph4 | primSetdiag | primWait =>
    simp only [decode, phaseInstr.eq_def, setdiagOperand.eq_def, waitOperand.eq_def] at h
    split at h <;> cases h <;> rfl

/-- Settles O4, by the two rows of the loop path and what the mask of the first compares. -/
theorem loopClassIsDecidedByTheFirstByte : Obligations.LoopClassIsDecidedByTheFirstByte :=
  fun f => ⟨decode_fwRx_rows f, f.toFW_matches_p0_iff⟩

/-- Settles O5: the rows as they stand, and the class of the outcome the tests give. -/
theorem validatorListIsTheOrderOfTests : Obligations.ValidatorListIsTheOrderOfTests :=
  fun f => ⟨decode_fwVal_rows f, validatorClass_outcomeOf f ▸ decode_fwVal f⟩

/-- A receive check with a frame pending records the poll and does what the frame's class does. -/
theorem exec_rxchk_pending (s : State) (h : s.rxpend = true) :
    exec .rxchk s = exec (loopClass s.slot) { s with trace := s.trace ++ [.poll (some s.slot)] } := by
  cases hg : grpchk s.slot with
  | true =>
    rw [loopClass, if_pos hg]
    exact CoreStep.exec_eq (.accepted h hg)
  | false =>
    rw [loopClass, if_neg (by simp [hg])]
    exact CoreStep.exec_eq (.discarded h hg)

/-- Settles O25: the slot's word decodes to the slot's class. -/
theorem receiveCheckRunsTheClassOfTheFrame : Obligations.ReceiveCheckRunsTheClassOfTheFrame :=
  fun _ s => ⟨rfl, rfl, fun h => ⟨_, decode_fwRx s.slot, exec_rxchk_pending s h⟩⟩

/-- A class of the validator path reports its outcome, whatever frame it holds. -/
theorem exec_validatorClass (o : ValidationOutcome) (f : Frame) (s : State) :
    exec (validatorClass o f) s = .next (report o s) := by
  cases o <;> rfl

/-- Settles O26: each row is the report of its outcome, and the slot's word decodes to the class of the outcome
that a validation of the slot reports. -/
theorem validationRunsTheClassOfTheSlot : Obligations.ValidationRunsTheClassOfTheSlot := by
  intro f s
  have hrow (o : ValidationOutcome) := (exec_validatorClass o f s).trans (congrArg _ (report_spec s o))
  exact ⟨hrow .headerMismatch, hrow .lengthMismatch, hrow .payloadMismatch, hrow .accepted, _, decode_fwVal s.slot,
    (exec_validate s).trans (exec_validatorClass _ _ s).symm⟩

/-- Settles O6: a phase code from 9 on is past the last row, a dataLength code from 9 on is above eight, and a number
from 2^79 on is no frame word. -/
theorem reservedWordsAreRejectedByName : Obligations.ReservedWordsAreRejectedByName := by
  refine ⟨fun n hn => ?phase, fun f hf => ?deliver, fun f hf => ?transmit, fun n hn => ?wide⟩
  case phase =>
    obtain ⟨k, rfl⟩ := Nat.exists_eq_add_of_le' hn
    rfl
  case deliver | transmit => exact (wireOperand_toFW _ f).trans (if_neg (Nat.not_le.2 hf))
  case wide =>
    have hbits : frameBits n = .error .frameWiderThan79Bits := if_neg (Nat.not_lt.2 hn)
    simp [decode, wireOperand, hbits]

/-- Settles O7, by decoding the six words. -/
theorem wordsWrittenOutDecode : Obligations.WordsWrittenOutDecode := ⟨rfl, rfl, rfl, rfl, rfl, rfl⟩

/-- Settles O8, by reading the codes. -/
theorem enumerationCodes : Obligations.EnumerationCodes := by
  unfold Obligations.EnumerationCodes
  decide

end Sys2Proof.Machine
end

section
/-! What the functions of the Frame Codec return (40_codec.md), each stated once: the operation, and its result by
bits and as a number. -/

namespace Sys2Proof.Machine

/-- `STATUS` sends the status frame. -/
theorem exec_status (s : State) : exec .status s = .next (sendStatus s) := rfl

/-- `ENC` only returns the status frame. -/
theorem exec_enc (s : State) : exec .enc s = .next (s.setRet (.frame enc)) := rfl

/-- `DEC` only returns the byte's pattern. -/
theorem exec_dec (b : Byte) (s : State) : exec (.dec b) s = .next (s.setRet (.pattern (dec b))) := rfl

/-- `GRPCHK` only returns whether the frame passes. -/
theorem exec_grpchk (f : Frame) (s : State) : exec (.grpchk f) s = .next (s.setRet (.bit (grpchk f))) := rfl

/-- `SELBYTE` only returns the byte that `DECODE_SEL` selects. -/
theorem exec_selbyte (f : Frame) (s : State) :
    exec (.selbyte f) s = .next (s.setRet (.byte (selbyte s.decodeSel f))) := rfl

/-- Under `P0` the byte selected is byte 0. -/
theorem exec_selbyte_of_p0 (f : Frame) {s : State} (h : s.decodeSel = .p0) :
    exec (.selbyte f) s = .next (s.setRet (.byte f.p0)) := by
  rw [exec_selbyte, h]
  rfl

/-- Under `P1` the byte selected is byte 1. -/
theorem exec_selbyte_of_p1 (f : Frame) {s : State} (h : s.decodeSel = .p1) :
    exec (.selbyte f) s = .next (s.setRet (.byte f.p1)) := by
  rw [exec_selbyte, h]
  rfl

/-- `PATBYTE` only returns the widened pattern. -/
theorem exec_patbyte (pat : Pattern) (s : State) : exec (.patbyte pat) s = .next (s.setRet (.byte (patbyte pat))) := rfl

/-- Two operations that only return a result answer the same where they return the same. -/
theorem next_setRet_inj (s : State) (r r' : Ret) :
    (.next (s.setRet r) : Host.Outcome State Fault Refusal) = .next (s.setRet r') ↔ r = r' := by
  refine ⟨fun h => ?_, fun h => by rw [h]⟩
  injection h with h
  exact congrArg State.ret h

/-- The whole first byte, as the returned bit. -/
theorem grpchk_eq_decide (f : Frame) : grpchk f = decide (f.p0 = 0x0A#8) :=
  Bool.eq_iff_iff.2 ((grpchk_iff f).trans decide_eq_true_iff.symm)

/-- A pattern is its byte modulo 16. -/
@[simp] theorem toNat_dec (b : Byte) : (dec b).toNat = b.toNat % 16 := by
  simp [dec]

/-- A widened pattern is the same number. -/
@[simp] theorem toNat_patbyte (pat : Pattern) : (patbyte pat).toNat = pat.toNat :=
  BitVec.toNat_setWidth_of_le (by decide)

/-- `DEC` brings a widened pattern back. -/
@[simp] theorem dec_patbyte (pat : Pattern) : dec (patbyte pat) = pat := by
  refine BitVec.eq_of_toNat_eq ?_
  rw [toNat_dec, toNat_patbyte]
  exact Nat.mod_eq_of_lt pat.isLt

/-- `PATBYTE` brings back the byte a pattern was taken from where no bit was cut off. -/
theorem patbyte_dec_eq_iff (b : Byte) : patbyte (dec b) = b ↔ b.toNat < 16 := by
  rw [← BitVec.toNat_inj, toNat_patbyte, toNat_dec, Nat.mod_eq_iff_lt (by decide)]

/-- The mask of R72 finds the status frame's fields in its word, whatever fills the bytes beyond dataLength. -/
theorem toFW_enc_and_statusRow_mask (fill : Fin 8 → Byte) :
    (enc.toFrame fill).toFW &&& 0x7FFFFF00000000000000#79 = 0x01A10A00000000000000#79 :=
  ((enc.toFrame fill).toFW_and_headWord_eq_iff (BitVec.allOnes 11) 26#11 (BitVec.allOnes 4) 1#4 (BitVec.allOnes 8)
    0x0A#8).2 (by simp [enc_eq, WireFrame.toFrame, Frame.ofBytes, WireFrame.dataLength])

end Sys2Proof.Machine
end

section
/-! The statements about the Frame Codec (40_codec.md) and the frame it builds. -/

namespace Sys2Proof.Machine

/-- Settles O13: the widened pattern reads bit for bit as the pattern with zeros above, and each way round is the
other's inverse where no bit is lost. -/
theorem patbyteIsInvertedByDec : Obligations.PatbyteIsInvertedByDec := by
  intro pat s
  refine ⟨⟨patbyte pat, exec_patbyte pat s, fun i hi => ?low, fun i hi => ?high, ?back⟩, fun b p h => ?round⟩
  case low => rw [← getLsbD_dec _ i hi, dec_patbyte]
  case high => simp [patbyte, BitVec.getLsbD_of_ge pat i hi]
  case back => exact (exec_dec _ s).trans (by rw [dec_patbyte]; rfl)
  case round =>
    obtain rfl : dec b = p := Ret.pattern.inj ((next_setRet_inj s _ _).1 h)
    calc exec (.patbyte (dec b)) s = .next (s.setRet (.byte b))
      _ ↔ patbyte (dec b) = b := (next_setRet_inj s _ _).trans (by rw [Ret.byte.injEq])
      _ ↔ b.toNat < 16 := patbyte_dec_eq_iff b

/-- Settles O9: the frame returned is the status frame, in whose word the mask of R72 finds its three fields. -/
theorem encReturnsTheStatusFrame : Obligations.EncReturnsTheStatusFrame :=
  fun s => ⟨exec_enc s, toFW_enc_and_statusRow_mask⟩

/-- Settles O10, by the bits of the pattern and by its number. -/
theorem decTakesTheLowFourBits : Obligations.DecTakesTheLowFourBits :=
  fun b s => ⟨dec b, exec_dec b s, getLsbD_dec b, toNat_dec b⟩

/-- Settles O11: the bit returned is the comparison of the first byte. -/
theorem grpchkComparesTheWholeFirstByte : Obligations.GrpchkComparesTheWholeFirstByte :=
  fun f s => grpchk_eq_decide f ▸ exec_grpchk f s

/-- Settles O12: the byte selected under each value of `DECODE_SEL`; under `P0` it is the byte that the group check
compared, whose low four bits are 1010. -/
theorem selbyteFollowsDecodeSel : Obligations.SelbyteFollowsDecodeSel := by
  intro f s
  refine ⟨exec_selbyte_of_p1 f, exec_selbyte_of_p0 f, fun h hg => ⟨f.p0, exec_selbyte_of_p0 f h, ?_⟩⟩
  have hpat : dec f.p0 = 0b1010#4 := by rw [hg]; rfl
  exact (exec_dec f.p0 s).trans (by rw [hpat]; rfl)

/-- Settles O24: the status frame is sent, its drawn answer being the supplied one where there is one. -/
theorem statusIsTransmitted : Obligations.StatusIsTransmitted := by
  intro s
  refine ⟨drawnAnswer s, drawnAnswer_supplied s, ?_⟩
  rw [exec_status, sendStatus_spec, withAnswer_eq, enc_eq]

end Sys2Proof.Machine
end

section
/-! The two invariants of 41_gateways.md: the timer runs with the loop's delay (R108), and a frame being processed is
pending (R102). Each is kept branch by branch of a `CORE` step, turn by turn, and so by every step. -/

namespace Sys2Proof.Machine

/-- A `CORE` step enters `DELAY` only as it starts the timer, and leaves it only as it takes the timer's end; any other
step starts and ends outside `DELAY` and does not write `TMR`. -/
theorem CoreStep.timerInv {p : Phase} {s t : State} (h : CoreStep s p t) (hph : s.ph = p) (hi : TimerInv s) :
    TimerInv t := by
  cases h with
  | pressed | elapsed => simp [TimerInv]
  | held => exact hi
  | _ => simpa [TimerInv, hph] using hi

/-- A reset leaves the timer idle in `TXCHK`, and the timer's own step moves it between the two values in use; no
other agent writes `TMR` or `PH`. -/
theorem TurnStep.timerInv {T : Turn} {s t : State} (h : TurnStep s T t) (hi : TimerInv s) : TimerInv t := by
  cases h with
  | core hc => exact hc.timerInv rfl hi
  | restarted => simp [TimerInv, resetRegisters]
  | timer =>
    by_cases ht : s.tmr = .running <;> simpa [TimerInv, ht] using hi
  | delivered | stopped | validated | button | answered | supplied => exact hi

/-- Settles O49: the turn taken keeps the invariant, which does not read the agenda. -/
theorem everyStepKeepsTheTimerInvariant : Obligations.EveryStepKeepsTheTimerInvariant := by
  intro s t hi h
  obtain ⟨ts, hturn⟩ := turnStep_of_step h
  exact hturn.timerInv hi

/-- A `CORE` step enters the phases that hold a frame only from a poll that found one pending, stays in them without
writing `RXPEND`, and clears it only as it leaves them. -/
theorem CoreStep.pendingInv {p : Phase} {s t : State} (h : CoreStep s p t) (hph : s.ph = p) (hi : PendingInv s) :
    PendingInv t := by
  cases h with
  | accepted hp | discarded hp => exact fun _ => hp
  | cleared | shown0 | shown1 | shown2 | shown3 => exact fun _ => hi (by rw [hph]; rfl)
  | held => exact hi
  | released | pressed | elapsed | nothingPending | acknowledged => exact fun hholds => nomatch hholds

/-- A delivery sets `RXPEND`, and a reset leaves the loop in `TXCHK`, where no frame is held; no other agent writes
`RXPEND` or `PH`. -/
theorem TurnStep.pendingInv {T : Turn} {s t : State} (h : TurnStep s T t) (hi : PendingInv s) : PendingInv t := by
  cases h with
  | core hc => exact hc.pendingInv rfl hi
  | delivered => exact fun _ => rfl
  | restarted => exact fun hholds => nomatch hholds
  | stopped | validated | button | timer | answered | supplied => exact hi

/-- Settles O50: the turn taken keeps the invariant, which does not read the agenda. -/
theorem everyStepKeepsTheFramePending : Obligations.EveryStepKeepsTheFramePending := by
  intro s t hi h
  obtain ⟨ts, hturn⟩ := turnStep_of_step h
  exact hturn.pendingInv hi

end Sys2Proof.Machine
end

section
/-! What the gateway primitives answer (41_gateways.md), each stated once by its shared operation, and the bytes of
a data port. -/

namespace Sys2Proof.Machine

/-- `TRANSMIT` of a Frame hands it over and returns the drawn answer. -/
theorem exec_transmit {f : WireFrame} (hf : f.data.length ≤ 8) (s : State) :
    exec (.transmit f) s = .next ((transmit f s).2.setRet (.answer (drawnAnswer s))) :=
  if_pos (f.wellFormed_iff.2 hf)

/-- `TRANSMIT` of what is no Frame is refused. -/
theorem exec_transmit_notAFrame {f : WireFrame} (hf : 8 < f.data.length) (s : State) :
    exec (.transmit f) s = .refused .notAFrame :=
  if_neg fun h => absurd (f.wellFormed_iff.1 h) (Nat.not_le.2 hf)

/-- `DELIVER` of what is no Frame is refused. -/
theorem exec_deliver_notAFrame {f : WireFrame} (hf : 8 < f.data.length) (s : State) :
    exec (.deliver f) s = .refused .notAFrame :=
  if_neg fun h => absurd (f.wellFormed_iff.1 h) (Nat.not_le.2 hf)

/-- `POLL` returns what the poll found. -/
theorem exec_poll (s : State) : exec .poll s = .next ((poll s).2.setRet (.polled (poll s).1)) := rfl

/-- `CLRPEND` is the clear. -/
theorem exec_clrpend (s : State) : exec .clrpend s = .next (clrpend s) := rfl

/-- `BTNRD` returns the level and records it. -/
theorem exec_btnrd (s : State) : exec .btnrd s = .next ((btnrd s).2.setRet (.bit s.btn)) := rfl

/-- `SETOUT` is the write of one output. -/
theorem exec_setout (i : BitVec 2) (v : Bool) (s : State) : exec (.setout i v) s = .next (setout i v s) := rfl

/-- `CLROUT` is the clear of the outputs. -/
theorem exec_clrout (s : State) : exec .clrout s = .next (clrout s) := rfl

/-- `SETDIAG` is the write of one diagnostic output. -/
theorem exec_setdiag (k : DiagIndex) (s : State) : exec (.setdiag k) s = .next (setdiag k s) := rfl

/-- `WAITSTART` starts the timer. -/
theorem exec_waitStart (s : State) : exec (.wait .start) s = .next (waitStart s) := rfl

/-- `WAITDONE` takes the end of a delay that is done. -/
theorem exec_waitDone {s : State} (h : s.tmr = .done) : exec (.wait .done) s = .next (waitDone s) := if_pos h

/-- A frame among the stopped ones does not pass the filter (41_gateways.md R110). -/
theorem filterPass_of_mem {s : State} {f : WireFrame} (h : f ∈ s.filterStops) : filterPass s f = false := by
  simp [filterPass, h]

/-- A delivered byte beyond the frame's dataLength is the supplied one where there is one. -/
theorem drawnByte_supplied {s : State} {n : Nat} {j : Fin 8} {b : Byte} (h : s.tail[j.val - n]? = some b) :
    drawnByte s n j = b := by
  simp [drawnByte, h]

/-- Byte j of a data port stands 8 * j bits below the top byte (10_state.md R33): the bytes below it are passed over,
and so are those above it. -/
theorem extractLsb'_dataWord_byte (g : Fin 8 → Byte) (j : Fin 8) :
    (dataWord g).extractLsb' (56 - 8 * j.val) 8 = g j := by
  have hsum (start len : Nat) : (dataWord g).extractLsb' start len =
      (g 0 ++ g 1 ++ g 2 ++ g 3 ++ g 4 ++ g 5 ++ g 6 ++ g 7).extractLsb' start len := rfl
  fin_cases j <;>
    simp (disch := omega) [hsum, BitVec.extractLsb'_append_eq_of_le, BitVec.extractLsb'_append_eq_of_add_le,
      -Nat.reduceAdd]

/-- The transmitter's ports carry a frame's identifier, its dataLength and each meaningful byte in its place. -/
theorem txPorts_bytes (n : Nat) (f : WireFrame) :
    ∃ data : BitVec 64, txPorts n f = (f.id, BitVec.ofNat 4 f.data.length, data) ∧
      ∀ (j : Fin 8) (b : Byte), f.data[j.val]? = some b → data.extractLsb' (56 - 8 * j.val) 8 = b := by
  refine ⟨_, rfl, fun j b hb => ?_⟩
  rw [extractLsb'_dataWord_byte, WireFrame.byte_toFrame, hb]
  rfl

end Sys2Proof.Machine
end

section
/-! The statements about the gateway primitives and the delivery of the bus (41_gateways.md R100 to R110). -/

namespace Sys2Proof.Machine

/-- Settles O14: the answer is the drawn one, which `tx_err_i` carries, and the one event puts the frame on the
ports. -/
theorem transmitRecordsItsAnswer : Obligations.TransmitRecordsItsAnswer := by
  intro f s hf
  obtain ⟨data, hports, hbytes⟩ := txPorts_bytes s.trace.length f
  refine ⟨drawnAnswer s, _, drawnAnswer_supplied s, fun _ => rfl, exec_transmit hf s, rfl, data, ?_, hbytes⟩
  rw [← hports]
  exact portsOut_eq rfl rfl

/-- Settles O15: the ports carry the slot byte by byte, and the poll finds the slot or nothing. -/
theorem pollCopiesAPendingSlot : Obligations.PollCopiesAPendingSlot := by
  intro s
  refine ⟨fun _ => ⟨rfl, rfl, rfl, extractLsb'_dataWord_byte s.slot.byte⟩, fun h => ?pending, fun h => ?empty⟩
  case pending => rw [exec_poll, poll_pending s h]; rfl
  case empty => rw [exec_poll, poll_empty s h]; rfl

/-- Settles O16: the clear as it stands, and the strobe of its event. -/
theorem clrpendClearsOnlyThePendingCondition : Obligations.ClrpendClearsOnlyThePendingCondition :=
  fun s => ⟨_, exec_clrpend s, clrpend_spec s, portsOut_eq rfl rfl⟩

/-- Settles O17: the slot's header and bytes are the frame's, the bytes beyond it are the draws, and the delivery
reads nothing of the slot it fills. -/
theorem deliverFillsTheSlot : Obligations.DeliverFillsTheSlot := by
  intro f s hf hstops
  have hexec : exec (.deliver f) s = .next (deliver f s) := exec_deliver_passed hf (filterPass_of_notMem hstops)
  refine ⟨f.toFrame (drawnByte s f.dataLength), s.draws + 8, hexec.trans (by rw [deliver_spec]), rfl,
    WireFrame.toFrame_dlc f hf _, fun j b hb => ?meaningful, fun j hj b hb => ?drawn, fun x => ?slot⟩
  case meaningful => simp [hb]
  case drawn =>
    rw [WireFrame.byte_toFrame, List.getElem?_eq_none hj]
    exact drawnByte_supplied hb
  case slot =>
    have hstops' : f ∉ (s.setSlot x).filterStops := hstops
    calc exec (.deliver f) (s.setSlot x)
      _ = .next (deliver f (s.setSlot x)) := exec_deliver_passed hf (filterPass_of_notMem hstops')
      _ = .next (deliver f s) := by rw [deliver_setSlot]
      _ = exec (.deliver f) s := hexec.symm

/-- Settles O18: a stopped frame uses up the bytes supplied for it, and more than eight bytes are no Frame. -/
theorem deliveryBoundary : Obligations.DeliveryBoundary :=
  ⟨fun _ _ hf hstops => exec_deliver_stopped hf (filterPass_of_mem hstops),
    fun _ s hf => ⟨exec_deliver_notAFrame hf s, exec_transmit_notAFrame hf s⟩⟩

/-- Settles O19: the level read is the level recorded, and a button turn sets it. -/
theorem btnrdReturnsTheLevel : Obligations.BtnrdReturnsTheLevel :=
  fun s => ⟨fun _ => rfl, exec_btnrd s, fun v rest h => (step_cons s _ rest h).trans (run_btn v _)⟩

/-- Settles O20, by the bits of the written display and the strobe of the event. -/
theorem setoutWritesOneBit : Obligations.SetoutWritesOneBit :=
  fun i v s => ⟨withOut s.disp i v, _, exec_setout i v s, setout_spec s i v, getLsbD_withOut s.disp i v,
    portsOut_eq rfl rfl⟩

/-- Settles O21: the clear as it stands, and the strobe of its event. -/
theorem clroutTurnsAllFourOff : Obligations.ClroutTurnsAllFourOff :=
  fun s => ⟨_, exec_clrout s, clrout_spec s, portsOut_eq rfl rfl⟩

/-- Settles O22, by the bits of the written diagnostics; the event raises no strobe, so the ports are those of the
state. -/
theorem setdiagLightsOneOutput : Obligations.SetdiagLightsOneOutput := by
  intro k s
  have hports : portsOut s (setdiag k s) = portsQuiet (setdiag k s) := portsOut_eq rfl rfl
  refine ⟨withDiag s.diag k, _, exec_setdiag k s, setdiag_spec s k, fun j => ?_, hports, by rw [hports]; rfl⟩
  rw [diagBit_withDiag]
  by_cases hj : j = k <;> simp [hj]

/-- Settles O23: start, completion and end of a delay, each by its own operation. -/
theorem waitHandshake : Obligations.WaitHandshake := by
  intro s
  refine ⟨⟨_, exec_waitStart s, waitStart_spec s, portsOut_eq rfl rfl⟩, fun rest hs ht => ?timer, fun _ => rfl,
    fun ht => exec_waitDone ht⟩
  case timer =>
    have hdone := timerStep_running (s.setAgenda rest) ht
    rw [step_cons s _ rest hs, run_tmr, hdone]
    rfl

end Sys2Proof.Machine
end

section
/-! What a trace that follows the phase graph can record next (42_protocol_loop.md R120): the moves of the acceptor
stated once, and the statements about traces read off them. -/

namespace Sys2Proof.Machine

/-! ### The moves of the acceptor -/

/-- A spot at which a step of the loop may have ended: `pressed` and `sent` lie inside the step that transmits, and a
broken order is no spot of the loop. -/
def Spot.BetweenSteps (p : Spot) : Prop := p ≠ .pressed ∧ p ≠ .sent ∧ p ≠ .broken

/-- The moves of the acceptor that do not break the order. -/
inductive Spot.Goes (sel : DecodeSel) : Spot → Event → Spot → Prop where
  | pressed : Goes sel .top (.btnread true) .pressed
  | released : Goes sel .top (.btnread false) .polling
  | sent (r : TxAnswer) : Goes sel .pressed (.tx { id := 26#11, data := [10#8] } r) .sent
  | started : Goes sel .sent .waitstart .waiting
  | elapsed : Goes sel .waiting .waitdone .polling
  | nothingPending : Goes sel .polling (.poll none) .top
  | accepted {f : Frame} (hf : f.p0 = 0x0A#8) : Goes sel .polling (.poll (some f)) (.clearing f)
  | discarded {f : Frame} (hf : f.p0 ≠ 0x0A#8) : Goes sel .polling (.poll (some f)) .releasing
  | cleared (f : Frame) : Goes sel (.clearing f) .clrout (.setting 0#2 f)
  | wrote {i : BitVec 2} (hi : i ≠ 3#2) (f : Frame) :
      Goes sel (.setting i f) (.setout i (patternBit sel f i.toNat)) (.setting (i + 1#2) f)
  | wroteLast (f : Frame) : Goes sel (.setting 3#2 f) (.setout 3#2 (patternBit sel f 3)) .releasing
  | acknowledged : Goes sel .releasing .clrpend .top
  | restarted {p : Spot} (hp : p.BetweenSteps) : Goes sel p .reset .top
  | otherAgent {p : Spot} {e : Event} (hp : p.BetweenSteps) (he : e.ofCore = false) (hr : e ≠ .reset) :
      Goes sel p e p

/-- The bits of a frame's decoded pattern. -/
theorem getLsbD_dec_selbyte (sel : DecodeSel) (f : Frame) (i : Nat) (h : i < 4) :
    (dec (selbyte sel f)).getLsbD i = patternBit sel f i := by
  rw [getLsbD_dec _ _ h]
  cases sel <;> rfl

/-- An event that does not break the order is one of the moves. -/
theorem Spot.goes_after {sel : DecodeSel} {p : Spot} {e : Event} (h : Spot.after sel p e ≠ .broken) :
    Spot.Goes sel p e (Spot.after sel p e) := by
  revert h
  unfold Spot.after
  split <;> intro h
  case h_1 | h_3 | h_5 | h_18 => exact absurd rfl h
  case h_2 f r =>
    by_cases hf : f = { id := 26#11, data := [10#8] }
    · subst hf
      exact .sent r
    · exact absurd (if_neg hf) h
  case h_4 => exact .started
  case h_6 hbroken hpressed hsent => exact .restarted ⟨hpressed, hsent, hbroken⟩
  case h_7 hbroken hpressed hsent | h_8 hbroken hpressed hsent | h_9 hbroken hpressed hsent =>
    exact .otherAgent ⟨hpressed, hsent, hbroken⟩ rfl nofun
  case h_10 => exact .pressed
  case h_11 => exact .released
  case h_12 => exact .elapsed
  case h_13 => exact .nothingPending
  case h_14 f =>
    by_cases hf : f.p0 = 0x0A#8
    · rw [if_pos hf]
      exact .accepted hf
    · rw [if_neg hf]
      exact .discarded hf
  case h_15 f => exact .cleared f
  case h_16 i f j v =>
    rw [getLsbD_dec_selbyte sel f _ i.isLt] at h ⊢
    by_cases hjv : j = i ∧ v = patternBit sel f i.toNat
    · obtain ⟨rfl, rfl⟩ := hjv
      rw [if_pos ⟨rfl, rfl⟩]
      by_cases hj : j = 3#2
      · subst hj
        exact .wroteLast f
      · rw [if_neg hj]
        exact .wrote hj f
    · exact absurd (if_neg hjv) h
  case h_17 => exact .acknowledged

/-- Events that end in an order not broken begin with a move, and end there from where that move leads. -/
theorem Spot.goes_head {sel : DecodeSel} {p r : Spot} {e : Event} {es : List Event}
    (h : (e :: es).foldl (Spot.after sel) p = r) (hr : r ≠ .broken) :
    ∃ q, Spot.Goes sel p e q ∧ es.foldl (Spot.after sel) q = r := by
  refine ⟨_, Spot.goes_after fun hbroken => hr ?_, h⟩
  rw [← h, List.foldl_cons, hbroken, foldl_broken]

/-- The spot of a phase is one between steps. -/
theorem betweenSteps_standsAt (p : Phase) (f : Frame) : (standsAt p f).BetweenSteps := by
  cases p <;> exact ⟨nofun, nofun, nofun⟩

/-- The later part of a trace on the graph leads from where the earlier part ends to where the phase stands. -/
theorem TraceInv.foldl_eq {s : State} (h : TraceInv s) {a b : List Event} (htr : s.trace = a ++ b) :
    b.foldl (Spot.after s.decodeSel) (spotOf s.decodeSel a) = standsAt s.ph s.fr := by
  rw [← spotOf_append, ← htr]
  exact h

/-! ### Every step -/

/-- The frames that fail the group check. -/
theorem grpchk_eq_false_iff (f : Frame) : grpchk f = false ↔ f.p0 ≠ 0x0A#8 := by
  rw [Bool.eq_false_iff, ne_eq, grpchk_iff]

/-- Between steps, an event of another agent that is no reset leaves the loop where it stands. -/
theorem after_standsAt_of_otherAgent (sel : DecodeSel) (p : Phase) (f : Frame) {e : Event} (he : e.ofCore = false)
    (hr : e ≠ .reset) : Spot.after sel (standsAt p f) e = standsAt p f := by
  cases e with
  | deliver | setdiag | valresult => cases p <;> rfl
  | reset => exact absurd rfl hr
  | _ => cases he

/-- Between steps, a reset leads to the top. -/
theorem after_standsAt_reset (sel : DecodeSel) (p : Phase) (f : Frame) :
    Spot.after sel (standsAt p f) .reset = .top := by
  cases p <;> rfl

/-- The trace is still on the graph when the events recorded lead from the spot of the old phase to that of the new. -/
theorem TraceInv.of_events {s t : State} (h : TraceInv s) (es : List Event) (htr : t.trace = s.trace ++ es)
    (hsel : t.decodeSel = s.decodeSel)
    (hes : es.foldl (Spot.after s.decodeSel) (standsAt s.ph s.fr) = standsAt t.ph t.fr) : TraceInv t := by
  rw [TraceInv, htr, hsel, spotOf_append, h, hes]

/-- The events of each branch of a phase lead to the spot of the phase it enters. -/
theorem CoreStep.traceInv {p : Phase} {s t : State} (h : CoreStep s p t) (hph : s.ph = p) (hi : TraceInv s) :
    TraceInv t := by
  cases h with
  | held => exact hi
  | accepted hp hg =>
    refine hi.of_events _ rfl rfl ?_
    simp [hph, standsAt, Spot.after, (grpchk_iff _).1 hg]
  | discarded hp hg =>
    refine hi.of_events _ rfl rfl ?_
    simp [hph, standsAt, Spot.after, (grpchk_eq_false_iff _).1 hg]
  | released | pressed | elapsed | nothingPending | cleared | shown0 | shown1 | shown2 | shown3 | acknowledged =>
    refine hi.of_events _ rfl rfl ?_
    simp [hph, standsAt, Spot.after, enc_eq, shown]

/-- The events of `BUS` and `VAL` leave every spot between steps where it is, and a reset leads from there to the
top. -/
theorem TurnStep.traceInv {T : Turn} {s t : State} (h : TurnStep s T t) (hi : TraceInv s) : TraceInv t := by
  cases h with
  | core hc => exact hc.traceInv rfl hi
  | delivered fw f => exact hi.of_events [.deliver f] rfl rfl (after_standsAt_of_otherAgent _ _ _ rfl nofun)
  | validated =>
    rw [report_spec]
    have hstays (e : Event) := after_standsAt_of_otherAgent s.decodeSel s.ph s.fr (e := e)
    refine hi.of_events _ rfl rfl ?_
    rw [List.foldl_cons, hstays (.setdiag _) rfl nofun]
    exact hstays (.valresult _) rfl nofun
  | restarted => exact hi.of_events [.reset] rfl rfl (after_standsAt_reset _ _ _)
  | stopped | button | timer | answered | supplied => exact hi

/-- Settles O52: the turn taken keeps the trace on the graph, and neither the trace nor the phase depends on the
agenda. -/
theorem everyStepKeepsTheTraceOnTheGraph : Obligations.EveryStepKeepsTheTraceOnTheGraph := by
  intro s t hi h
  obtain ⟨ts, hturn⟩ := turnStep_of_step h
  exact hturn.traceInv hi

/-! ### Between a poll and the release of its frame -/

/-- The output events the loop still owes the frame it holds; nothing is owed where it holds none. -/
def Spot.owed (sel : DecodeSel) (p : Spot) : Option (List Event) :=
  match p with
  | .clearing f => some (writesFor sel f)
  | .setting i f => some ((writesFor sel f).drop (i.toNat + 1))
  | .releasing => some []
  | .top | .pressed | .sent | .waiting | .polling | .broken => none

/-- Before the last output, the output events owed at bit i are that bit's and those owed at the next. -/
theorem drop_writesFor (sel : DecodeSel) (f : Frame) {i : BitVec 2} (hi : i ≠ 3#2) :
    (writesFor sel f).drop (i.toNat + 1) =
      .setout i (patternBit sel f i.toNat) :: (writesFor sel f).drop ((i + 1#2).toNat + 1) := by
  obtain ⟨i, rfl⟩ : ∃ j : Fin 4, i = BitVec.ofFin j := ⟨i.toFin, rfl⟩
  fin_cases i
  · rfl
  · rfl
  · rfl
  · exact absurd rfl hi

/-- A move before the release is by another agent and changes nothing, or records the first event owed. -/
theorem Spot.Goes.owed {sel : DecodeSel} {p q : Spot} {e : Event} {ws : List Event} (h : Spot.Goes sel p e q)
    (hp : p.owed sel = some ws) (hc : e ≠ .clrpend) (hr : e ≠ .reset) :
    (e.ofCore = false ∧ q = p) ∨ (e.ofCore = true ∧ ∃ ws', ws = e :: ws' ∧ q.owed sel = some ws') := by
  cases h with
  | pressed | released | sent | started | elapsed | nothingPending | accepted | discarded => cases hp
  | cleared f =>
    cases hp
    exact .inr ⟨rfl, _, rfl, rfl⟩
  | wrote hi f =>
    cases hp
    exact .inr ⟨rfl, _, drop_writesFor sel f hi, rfl⟩
  | wroteLast f =>
    cases hp
    exact .inr ⟨rfl, _, rfl, rfl⟩
  | acknowledged => exact absurd rfl hc
  | restarted => exact absurd rfl hr
  | otherAgent _ he => exact .inl ⟨he, rfl⟩

/-- Up to the next release, `CORE` records exactly the output events owed. -/
theorem Spot.filter_ofCore_eq_owed {sel : DecodeSel} {r : Spot} (hr : r ≠ .broken) (c : List Event) :
    ∀ (b : List Event) (p : Spot) (ws : List Event), p.owed sel = some ws →
      (b ++ .clrpend :: c).foldl (Spot.after sel) p = r → .clrpend ∉ b → .reset ∉ b → b.filter Event.ofCore = ws := by
  intro b
  induction b with
  | nil =>
    intro p ws hp h _ _
    obtain ⟨q, hgo, -⟩ := Spot.goes_head h hr
    cases hgo with
    | acknowledged => exact Option.some.inj hp
    | otherAgent _ he => cases he
  | cons e b ih =>
    intro p ws hp h hclr hreset
    obtain ⟨q, hgo, hq⟩ := Spot.goes_head h hr
    rw [List.mem_cons, not_or] at hclr hreset
    obtain ⟨he, rfl⟩ | ⟨he, ws', rfl, hq'⟩ := hgo.owed hp (Ne.symm hclr.1) (Ne.symm hreset.1)
    · rw [List.filter_cons_of_neg (by simp [he])]
      exact ih q ws hp hq hclr.2 hreset.2
    · rw [List.filter_cons_of_pos he, ih q ws' hq' hq hclr.2 hreset.2]

/-- Settles O35: a poll of a frame leaves its five output events owed, or none, and what is owed is recorded before the
release. -/
theorem outputsBetweenPollAndRelease : Obligations.OutputsBetweenPollAndRelease := by
  intro s a b c f hi htr hclr hreset
  obtain ⟨-, -, hne⟩ := betweenSteps_standsAt s.ph s.fr
  obtain ⟨q, hgo, hq⟩ := Spot.goes_head (hi.foldl_eq htr) hne
  have howed (ws : List Event) (h : q.owed s.decodeSel = some ws) : b.filter Event.ofCore = ws :=
    Spot.filter_ofCore_eq_owed hne c b q ws h hq hclr hreset
  generalize spotOf s.decodeSel a = p at hgo
  cases hgo with
  | accepted hf =>
    rw [if_pos hf]
    exact howed _ rfl
  | discarded hf =>
    rw [if_neg hf]
    exact howed _ rfl
  | otherAgent _ he => cases he

/-! ### A transmit and its delay -/

/-- Only a button read of 1 leads to the spot from which a transmit comes. -/
theorem Spot.Goes.eq_btnread {sel : DecodeSel} {p : Spot} {e : Event} (h : Spot.Goes sel p e .pressed) :
    e = .btnread true := by
  cases h with
  | pressed => rfl
  | otherAgent hp => exact absurd rfl hp.1

/-- A trace that stands where a transmit comes next ends in a button read of 1. -/
theorem exists_btnread_of_spotOf {sel : DecodeSel} {a : List Event} (h : spotOf sel a = .pressed) :
    ∃ a', a = a' ++ [.btnread true] := by
  obtain rfl | ⟨a', e, rfl⟩ := a.eq_nil_or_concat'
  · cases h
  · rw [spotOf_append] at h
    obtain ⟨q, hgo, rfl⟩ := Spot.goes_head h nofun
    exact ⟨a', by rw [hgo.eq_btnread]⟩

/-- While the delay runs and no reset comes, the first event of `CORE` is its end. -/
theorem Spot.filter_ofCore_of_waiting {sel : DecodeSel} {r : Spot} (hr : r ≠ .broken) (d : List Event) :
    ∀ c : List Event, (c ++ d).foldl (Spot.after sel) .waiting = r → .reset ∉ c →
      c.filter Event.ofCore = [] ∨ ∃ rest, c.filter Event.ofCore = .waitdone :: rest := by
  intro c
  induction c with
  | nil => exact fun _ _ => .inl rfl
  | cons e c ih =>
    intro h hreset
    rw [List.mem_cons, not_or] at hreset
    obtain ⟨q, hgo, hq⟩ := Spot.goes_head h hr
    cases hgo with
    | elapsed => exact .inr ⟨_, List.filter_cons_of_pos rfl⟩
    | restarted => exact absurd rfl hreset.1
    | otherAgent _ he _ =>
      rw [List.filter_cons_of_neg (by simp [he])]
      exact ih hq hreset.2

/-- Settles O36: a transmit is a move from the spot after a button read of 1, the trace does not end right after it, and
the only move from there is the start of the delay. -/
theorem transmitIsFollowedByItsDelay : Obligations.TransmitIsFollowedByItsDelay := by
  intro s a b f r hi htr
  obtain ⟨-, hsent, hne⟩ := betweenSteps_standsAt s.ph s.fr
  obtain ⟨q, hgo, hq⟩ := Spot.goes_head (hi.foldl_eq htr) hne
  generalize ha : spotOf s.decodeSel a = p at hgo
  cases hgo with
  | otherAgent _ he => cases he
  | sent =>
    refine ⟨rfl, exists_btnread_of_spotOf ha, ?_⟩
    cases b with
    | nil => exact absurd hq.symm hsent
    | cons e b =>
      obtain ⟨q, hgo, hq⟩ := Spot.goes_head hq hne
      cases hgo with
      | restarted hp | otherAgent hp => exact absurd rfl hp.2.1
      | started =>
        refine ⟨b, rfl, fun c d hb hreset => ?_⟩
        rw [hb] at hq
        exact Spot.filter_ofCore_of_waiting hne d c hq hreset

end Sys2Proof.Machine
end

section
/-! The phases of the loop one by one (42_protocol_loop.md R121 to R129): each statement is the branch of `CoreStep` its
condition selects. -/

namespace Sys2Proof.Machine

/-- Settles O27: the two branches of `TXCHK`, the answer being the drawn one. -/
theorem txchkSendsWhilePressed : Obligations.TxchkSendsWhilePressed := by
  refine ⟨rfl, fun s => ⟨fun hb => (CoreStep.released hb).exec_eq, fun hb => ?pressed⟩⟩
  case pressed =>
    refine ⟨drawnAnswer s, drawnAnswer_supplied s, ?_⟩
    rw [← withAnswer_eq, ← enc_eq]
    exact (CoreStep.pressed hb).exec_eq

/-- A listed timer turn completes a running timer. -/
theorem step_of_timer {s : State} {rest : List Turn} (ha : s.agenda = .tmr :: rest) (ht : s.tmr = .running) :
    step s = .next { s with tmr := .done, agenda := rest } := by
  have hdone := timerStep_running (s.setAgenda rest) ht
  rw [step_cons s _ rest ha, run_tmr, hdone]
  rfl

/-- Settles O28: the two branches of `DELAY`, and the turn of the timer. -/
theorem delayWaitsForTheTimer : Obligations.DelayWaitsForTheTimer := by
  refine ⟨rfl, fun s => ⟨fun ht => ?elapsed, fun ht => ⟨?held, fun _ ha => step_of_timer ha ht⟩⟩⟩
  case elapsed => exact (CoreStep.elapsed ht).exec_eq
  case held => exact (CoreStep.held (by simp [ht])).exec_eq

/-- Settles O29: the three branches of `RXCHK`, the group check read as the comparison of the first byte. -/
theorem rxchkPollsAndChecks : Obligations.RxchkPollsAndChecks :=
  ⟨rfl, fun s => ⟨fun hp => (CoreStep.nothingPending hp).exec_eq,
    fun hp hg => (CoreStep.accepted hp ((grpchk_iff s.slot).2 hg)).exec_eq,
    fun hp hg => (CoreStep.discarded hp ((grpchk_eq_false_iff s.slot).2 hg)).exec_eq⟩⟩

/-- Settles O30, by the one branch of `CLR`. -/
theorem clrClearsTheDisplay : Obligations.ClrClearsTheDisplay := ⟨rfl, fun _ => CoreStep.cleared.exec_eq⟩

/-! ### The display -/

/-- A phase that answers with bit k of the shown pattern written to the display writes one bit as R125 to R128 say. -/
theorem writesBit_of_exec_eq {i : Instr} {k : BitVec 2} {p : Phase} {s : State}
    (h : exec i s = .next { s with
      disp := withOut s.disp k ((shown s).getLsbD k.toNat)
      ph := p
      trace := s.trace ++ [.setout k ((shown s).getLsbD k.toNat)] }) : WritesBit i k p s := by
  rw [getLsbD_shown s _ k.isLt] at h
  refine ⟨_, h, fun j hj => ?_⟩
  rw [getLsbD_withOut _ _ _ _ hj]
  by_cases hjk : j = k.toNat
  · rw [if_pos hjk, if_pos hjk, hjk]
  · rw [if_neg hjk, if_neg hjk]

/-- Settles O31: each of the three phases has one branch, which writes its bit. -/
theorem setPhasesWriteOneBitEach : Obligations.SetPhasesWriteOneBitEach :=
  ⟨rfl, rfl, rfl, fun _ => ⟨writesBit_of_exec_eq CoreStep.shown0.exec_eq, writesBit_of_exec_eq CoreStep.shown1.exec_eq,
    writesBit_of_exec_eq CoreStep.shown2.exec_eq⟩⟩

/-- Bit i written over a pattern's bits below i and zeros above gives the pattern's bits up to i and zeros above. -/
theorem withOut_bits_below (pat : Pattern) (i : BitVec 2) :
    withOut (pat &&& BitVec.ofNat 4 (2 ^ i.toNat - 1)) i (pat.getLsbD i.toNat) =
      pat &&& BitVec.ofNat 4 (2 ^ (i.toNat + 1) - 1) := by
  revert pat i
  decide

/-- Bit 0 written over a cleared display. -/
theorem withOut_zero (pat : Pattern) : withOut 0b0000#4 0#2 (pat.getLsbD 0) = pat &&& 0b0001#4 := by
  have h := withOut_bits_below pat 0#2
  rwa [show pat &&& BitVec.ofNat 4 (2 ^ (0#2).toNat - 1) = 0b0000#4 from BitVec.and_zero] at h

/-- Bit 3, the last, written over the three below it gives the whole pattern. -/
theorem withOut_three (pat : Pattern) : withOut (pat &&& 0b0111#4) 3#2 (pat.getLsbD 3) = pat :=
  (withOut_bits_below pat 3#2).trans BitVec.and_allOnes

/-- Each branch that enters `CLR` or a `SET` phase brings what the invariant asks of that phase; no other branch enters
one. -/
theorem CoreStep.displayInv {p : Phase} {s t : State} (h : CoreStep s p t) (hph : s.ph = p) (hi : DisplayInv s) :
    DisplayInv t := by
  have ⟨hclr, hset0, hset1, hset2, _⟩ := hi
  cases h with
  | held => exact hi
  | accepted hp hg => exact ⟨fun _ => hg, nofun, nofun, nofun, nofun⟩
  | cleared => exact ⟨nofun, fun _ => ⟨hclr hph, rfl⟩, nofun, nofun, nofun⟩
  | shown0 =>
    obtain ⟨hg, hdisp⟩ := hset0 hph
    refine ⟨nofun, nofun, fun _ => ⟨hg, ?_⟩, nofun, nofun⟩
    rw [hdisp]
    exact withOut_zero (shown s)
  | shown1 =>
    obtain ⟨hg, hdisp⟩ := hset1 hph
    refine ⟨nofun, nofun, nofun, fun _ => ⟨hg, ?_⟩, nofun⟩
    rw [hdisp]
    exact withOut_bits_below (shown s) 1#2
  | shown2 =>
    obtain ⟨hg, hdisp⟩ := hset2 hph
    refine ⟨nofun, nofun, nofun, nofun, fun _ => ⟨hg, ?_⟩⟩
    rw [hdisp]
    exact withOut_bits_below (shown s) 2#2
  | released | pressed | elapsed | nothingPending | discarded | shown3 | acknowledged =>
    exact ⟨nofun, nofun, nofun, nofun, nofun⟩

/-- A reset leaves the loop in `TXCHK`, where nothing is asked; no other agent writes `PH`, `FR` or `DISP`. -/
theorem TurnStep.displayInv {T : Turn} {s t : State} (h : TurnStep s T t) (hi : DisplayInv s) : DisplayInv t := by
  cases h with
  | core hc => exact hc.displayInv rfl hi
  | restarted => exact ⟨nofun, nofun, nofun, nofun, nofun⟩
  | delivered | stopped | validated | button | timer | answered | supplied => exact hi

/-- Settles O51: the turn taken keeps the invariant, which does not read the agenda. -/
theorem everyStepKeepsTheDisplayInvariant : Obligations.EveryStepKeepsTheDisplayInvariant := by
  intro s t hi h
  obtain ⟨ts, hturn⟩ := turnStep_of_step h
  exact hturn.displayInv hi

/-- Settles O32: the one branch of `SET3` writes bit 3 over the three that the invariant says are written. -/
theorem setThreeCompletesThePattern : Obligations.SetThreeCompletesThePattern := by
  refine ⟨rfl, fun s => ⟨writesBit_of_exec_eq CoreStep.shown3.exec_eq, fun hi hph => ?_⟩⟩
  obtain ⟨-, -, -, -, hset3⟩ := hi
  obtain ⟨-, hdisp⟩ := hset3 hph
  refine ⟨_, CoreStep.shown3.exec_eq, fun i hlt => ?_⟩
  rw [hdisp, withOut_three, getLsbD_shown s i hlt]

end Sys2Proof.Machine
end

section
/-! Runs of the loop (42_protocol_loop.md R120, R130, R133): where the phase can move, and what consecutive steps make
of a state on the way back to the top. -/

namespace Sys2Proof.Machine

/-! ### The edges of the phase graph -/

/-- A branch of a phase goes along an edge of the graph, but for the hold. -/
theorem CoreStep.graphEdge {p : Phase} {s t : State} (h : CoreStep s p t) (hph : s.ph = p) :
    GraphEdge s t.ph ∨ (p = .delay ∧ s.tmr ≠ .done ∧ t = s) := by
  cases h with
  | held ht => exact .inr ⟨rfl, ht, rfl⟩
  | accepted hp hg => exact .inl (by simp [GraphEdge, hph, hp, (grpchk_iff _).1 hg])
  | discarded hp hg => exact .inl (by simp [GraphEdge, hph, hp, (grpchk_eq_false_iff _).1 hg])
  | released hc | pressed hc | elapsed hc | nothingPending hc => exact .inl (by simp [GraphEdge, hph, hc])
  | cleared | shown0 | shown1 | shown2 | shown3 | acknowledged => exact .inl (by simp [GraphEdge, hph])

/-- No edge leads from a phase to itself. -/
theorem GraphEdge.ne {s : State} {p : Phase} (h : GraphEdge s p) : p ≠ s.ph := by
  intro hp
  rw [hp] at h
  cases hph : s.ph <;> simp [GraphEdge, hph] at h

/-- A turn that changes the phase is a `CORE` turn along an edge, or a reset. -/
theorem TurnStep.graphEdge {T : Turn} {s t : State} (h : TurnStep s T t) (hne : t.ph ≠ s.ph) :
    (T = .core ∧ GraphEdge s t.ph) ∨ (T = .reset ∧ t.ph = .txchk) := by
  cases h with
  | core hc =>
    obtain hedge | ⟨-, -, rfl⟩ := hc.graphEdge rfl
    · exact .inl ⟨rfl, hedge⟩
    · exact absurd rfl hne
  | restarted => exact .inr ⟨rfl, rfl⟩
  | delivered | stopped | validated | button | timer | answered | supplied => exact absurd rfl hne

/-- A step that changes the phase is a `CORE` step along an edge, or a reset. -/
theorem graphEdge_of_step {s t : State} (h : step s = .next t) (hne : t.ph ≠ s.ph) :
    (turnOf s = .core ∧ GraphEdge s t.ph) ∨ (turnOf s = .reset ∧ t.ph = .txchk) := by
  obtain ⟨ts, hturn⟩ := turnStep_of_step h
  exact hturn.graphEdge hne

/-- An edge leaves every phase, `DELAY` once the timer is done. -/
theorem exists_graphEdge {s : State} (h : s.ph = .delay → s.tmr = .done) : ∃ p, GraphEdge s p := by
  obtain ⟨t, ht⟩ := CoreStep.exists_next s s.ph
  obtain hedge | ⟨hph, htmr, -⟩ := ht.graphEdge rfl
  · exact ⟨_, hedge⟩
  · exact absurd (h hph) htmr

/-- The edges that end in `ACK`. -/
theorem graphEdge_ack_iff {s : State} :
    GraphEdge s .ack ↔ (s.ph = .rxchk ∧ s.rxpend = true ∧ s.slot.p0 ≠ 0x0A#8) ∨ s.ph = .set3 := by
  simp [GraphEdge]

/-- Settles O33: the one branch of `ACK`, and the edges that end there. -/
theorem ackReleasesTheFrame : Obligations.AckReleasesTheFrame := by
  refine ⟨rfl, fun s => CoreStep.acknowledged.exec_eq, fun s t h hs ht => ?_⟩
  obtain ⟨hT, hedge⟩ | ⟨-, htop⟩ := graphEdge_of_step h (by rw [ht]; exact hs.symm)
  · rw [ht] at hedge
    exact ⟨hT, graphEdge_ack_iff.1 hedge⟩
  · rw [ht] at htop
    cases htop

/-! ### Back to the top -/

/-- k steps from s lead to t, and at none of the states before t does the loop stand at the top. -/
def ReturnsTo (k : Nat) (s t : State) : Prop :=
  Sys2Proof.core.run k s = .next t ∧ ∀ m u, m < k → Sys2Proof.core.run m s = .next u → u.ph ≠ .txchk

/-- No step at all. -/
theorem ReturnsTo.here (s : State) : ReturnsTo 0 s s := ⟨rfl, fun _ _ hm => absurd hm (Nat.not_lt_zero _)⟩

/-- After a first step, the states in between are those after it. -/
theorem ne_txchk_of_step {k : Nat} {s t u : State} (h : step s = .next t) (ht : ReturnsTo k t u) :
    ∀ m v, 0 < m → m < k + 1 → Sys2Proof.core.run m s = .next v → v.ph ≠ .txchk := by
  intro m v hpos hm hv
  obtain ⟨m, rfl⟩ := Nat.exists_eq_add_one.2 hpos
  rw [core_run_next h] at hv
  exact ht.2 m v (Nat.lt_of_succ_lt_succ hm) hv

/-- One step more, from a state that is not at the top. -/
theorem ReturnsTo.of_step {k : Nat} {s t u : State} (h : step s = .next t) (hs : s.ph ≠ .txchk)
    (ht : ReturnsTo k t u) : ReturnsTo (k + 1) s u := by
  refine ⟨(core_run_next h).trans ht.1, fun m v hm hv => ?_⟩
  obtain rfl | hpos := Nat.eq_zero_or_pos m
  · cases hv
    exact hs
  · exact ne_txchk_of_step h ht m v hpos hm hv

/-- A listed `CORE` turn takes the branch of its phase. -/
theorem step_of_coreStep {p : Phase} {s t : State} {rest : List Turn} (ha : s.agenda = .core :: rest) (hph : s.ph = p)
    (h : CoreStep (s.setAgenda rest) p t) : step s = .next t := by
  subst hph
  rw [step_cons s _ rest ha, run_core]
  exact h.exec_eq

/-- One `CORE` step more, from a phase that is not `TXCHK`. -/
theorem ReturnsTo.of_core {k : Nat} {p : Phase} {s t u : State} {rest : List Turn} (ha : s.agenda = .core :: rest)
    (hph : s.ph = p) (hp : p ≠ .txchk) (h : CoreStep (s.setAgenda rest) p t) (ht : ReturnsTo k t u) :
    ReturnsTo (k + 1) s u :=
  .of_step (step_of_coreStep ha hph h) (by rw [hph]; exact hp) ht

/-- The four bits of a pattern written over a cleared display give the pattern. -/
theorem withOut_all (pat : Pattern) :
    withOut (withOut (withOut (withOut 0b0000#4 0#2 (pat.getLsbD 0)) 1#2 (pat.getLsbD 1)) 2#2 (pat.getLsbD 2)) 3#2
      (pat.getLsbD 3) = pat :=
  calc
    _ = withOut (withOut (withOut (pat &&& 0b0001#4) 1#2 (pat.getLsbD 1)) 2#2 (pat.getLsbD 2)) 3#2 (pat.getLsbD 3) := by
      rw [withOut_zero]
    _ = withOut (withOut (pat &&& 0b0011#4) 2#2 (pat.getLsbD 2)) 3#2 (pat.getLsbD 3) :=
      congrArg (fun d => withOut (withOut d 2#2 _) 3#2 _) (withOut_bits_below pat 1#2)
    _ = withOut (pat &&& 0b0111#4) 3#2 (pat.getLsbD 3) := congrArg (withOut · 3#2 _) (withOut_bits_below pat 2#2)
    _ = pat := withOut_three pat

/-- The output events of a frame, by the bits of its decoded pattern. -/
theorem writesFor_eq (sel : DecodeSel) (f : Frame) :
    writesFor sel f =
      [.clrout, .setout 0#2 ((dec (selbyte sel f)).getLsbD 0), .setout 1#2 ((dec (selbyte sel f)).getLsbD 1),
       .setout 2#2 ((dec (selbyte sel f)).getLsbD 2), .setout 3#2 ((dec (selbyte sel f)).getLsbD 3)] := by
  rw [getLsbD_dec_selbyte sel f 0 (by decide), getLsbD_dec_selbyte sel f 1 (by decide),
    getLsbD_dec_selbyte sel f 2 (by decide), getLsbD_dec_selbyte sel f 3 (by decide), writesFor]

/-- From `ACK` the release leads to the top. -/
theorem returnsTo_of_ack {s : State} {rest : List Turn} (hph : s.ph = .ack) (ha : s.agenda = .core :: rest) :
    ReturnsTo 1 s { s with rxpend := false, ph := .txchk, agenda := rest, trace := s.trace ++ [.clrpend] } :=
  .of_core ha hph nofun .acknowledged (.here _)

/-- From `CLR` the five output events and the release lead to the top, the display showing the pattern. -/
theorem returnsTo_of_clr {s : State} {rest : List Turn} (hph : s.ph = .clr)
    (ha : s.agenda = List.replicate 6 .core ++ rest) :
    ReturnsTo 6 s { s with
      disp := dec (selbyte s.decodeSel s.fr)
      rxpend := false
      ph := .txchk
      agenda := rest
      trace := s.trace ++ (writesFor s.decodeSel s.fr ++ [.clrpend]) } := by
  have h := ReturnsTo.of_core ha hph nofun .cleared <| .of_core rfl rfl nofun .shown0 <|
    .of_core rfl rfl nofun .shown1 <| .of_core rfl rfl nofun .shown2 <| .of_core rfl rfl nofun .shown3 <|
    returnsTo_of_ack rfl rfl
  rw [writesFor_eq]
  simpa [shown, withOut_all, -BitVec.getLsbD_eq_getElem] using h

/-- From `RXCHK` with nothing pending the poll leads to the top. -/
theorem returnsTo_of_nothingPending {s : State} {rest : List Turn} (hph : s.ph = .rxchk) (hp : s.rxpend = false)
    (ha : s.agenda = .core :: rest) :
    ReturnsTo 1 s { s with ph := .txchk, agenda := rest, trace := s.trace ++ [.poll none] } :=
  .of_core ha hph nofun (.nothingPending hp) (.here _)

/-- From `RXCHK` with a frame to discard the poll and the release lead to the top. -/
theorem returnsTo_of_discarded {s : State} {rest : List Turn} (hph : s.ph = .rxchk) (hp : s.rxpend = true)
    (hg : s.slot.p0 ≠ 0x0A#8) (ha : s.agenda = List.replicate 2 .core ++ rest) :
    ReturnsTo 2 s { s with
      fr := s.slot
      rxpend := false
      ph := .txchk
      agenda := rest
      trace := s.trace ++ [.poll (some s.slot), .clrpend] } := by
  have h := ReturnsTo.of_core ha hph nofun (.discarded hp ((grpchk_eq_false_iff _).2 hg)) <| returnsTo_of_ack rfl rfl
  simpa using h

/-- From `RXCHK` with a frame to accept the poll, the five output events and the release lead to the top. -/
theorem returnsTo_of_accepted {s : State} {rest : List Turn} (hph : s.ph = .rxchk) (hp : s.rxpend = true)
    (hg : s.slot.p0 = 0x0A#8) (ha : s.agenda = List.replicate 7 .core ++ rest) :
    ReturnsTo 7 s { s with
      fr := s.slot
      disp := dec (selbyte s.decodeSel s.slot)
      rxpend := false
      ph := .txchk
      agenda := rest
      trace := s.trace ++ .poll (some s.slot) :: (writesFor s.decodeSel s.slot ++ [.clrpend]) } := by
  have h := ReturnsTo.of_core ha hph nofun (.accepted hp ((grpchk_iff _).2 hg)) <| returnsTo_of_clr rfl rfl
  simpa using h

/-- Settles O34: the two ways from a poll of a frame back to the top. -/
theorem iterationOfAPolledFrame : Obligations.IterationOfAPolledFrame :=
  fun _ _ hph hp => ⟨fun hg ha => (returnsTo_of_discarded hph hp hg ha).1,
    fun hg ha => ⟨_, getLsbD_dec_selbyte _ _, (returnsTo_of_accepted hph hp hg ha).1⟩⟩

/-- How many `CORE` steps lead from the receive check to the top. -/
def receiveSteps (s : State) : Nat := 1 + if s.rxpend then (if s.slot.p0 = 0x0A#8 then 6 else 1) else 0

/-- Before the receive check an iteration takes `TXCHK`, and `DELAY` after a transmit. -/
theorem iterationSteps_eq (s : State) : iterationSteps s = receiveSteps s + if s.btn then 2 else 1 := by
  unfold iterationSteps receiveSteps
  split <;> omega

/-- k steps lead from s back to the top, and not fewer, with nothing pending and the turns `rest` to come. -/
def BackAtTop (k : Nat) (rest : List Turn) (s : State) : Prop :=
  ∃ t, ReturnsTo k s t ∧ t.ph = .txchk ∧ t.agenda = rest ∧ t.rxpend = false

/-- One step more, from a state that is not at the top. -/
theorem BackAtTop.of_step {k : Nat} {rest : List Turn} {s t : State} (h : step s = .next t) (hs : s.ph ≠ .txchk)
    (ht : BackAtTop k rest t) : BackAtTop (k + 1) rest s := by
  obtain ⟨u, hu, htop⟩ := ht
  exact ⟨u, hu.of_step h hs, htop⟩

/-- The receive check, in each of its three branches, is back at the top after its steps. -/
theorem backAtTop_of_rxchk {k : Nat} {s : State} {rest : List Turn} (hph : s.ph = .rxchk) (hk : receiveSteps s = k)
    (ha : s.agenda = List.replicate k .core ++ rest) : BackAtTop k rest s := by
  subst hk
  unfold receiveSteps at ha ⊢
  cases hp : s.rxpend with
  | false =>
    rw [hp] at ha
    exact ⟨_, returnsTo_of_nothingPending hph hp ha, rfl, rfl, hp⟩
  | true =>
    rw [hp] at ha
    by_cases hg : s.slot.p0 = 0x0A#8
    · rw [if_pos hg] at ha ⊢
      exact ⟨_, returnsTo_of_accepted hph hp hg ha, rfl, rfl, rfl⟩
    · rw [if_neg hg] at ha ⊢
      exact ⟨_, returnsTo_of_discarded hph hp hg ha, rfl, rfl, rfl⟩

/-- The delay takes the timer's turn and one `CORE` step, and the receive check follows. -/
theorem backAtTop_of_delay {k : Nat} {s : State} {rest : List Turn} (hph : s.ph = .delay) (ht : s.tmr = .running)
    (hk : receiveSteps s = k) (ha : s.agenda = .tmr :: .core :: (List.replicate k .core ++ rest)) :
    BackAtTop (k + 2) rest s := by
  have hne : s.ph ≠ .txchk := by simp [hph]
  exact .of_step (step_of_timer ha ht) hne <| .of_step (step_of_coreStep rfl hph (.elapsed rfl)) hne <|
    backAtTop_of_rxchk rfl hk rfl

/-- The first step of an iteration leads to the receive check, or to the delay with the timer running. -/
theorem exists_backAtTop_of_txchk {s : State} {n : Nat} {rest : List Turn} (hph : s.ph = .txchk)
    (hn : iterationSteps s = n + 1)
    (ha : s.agenda = .core :: ((if s.btn then [Turn.tmr] else []) ++ List.replicate n .core ++ rest)) :
    ∃ t, step s = .next t ∧ BackAtTop (n + if s.btn then 1 else 0) rest t := by
  rw [iterationSteps_eq] at hn
  cases hb : s.btn with
  | false =>
    obtain rfl : receiveSteps s = n := by simpa [hb] using hn
    rw [hb] at ha
    exact ⟨_, step_of_coreStep ha hph (.released hb), backAtTop_of_rxchk rfl rfl rfl⟩
  | true =>
    obtain rfl : receiveSteps s + 1 = n := by simpa [hb] using hn
    rw [hb] at ha
    exact ⟨_, step_of_coreStep ha hph (.pressed hb), backAtTop_of_delay rfl rfl rfl rfl⟩

/-- Settles O37: the edges of the graph, and an iteration as its first step and the way from there to the top. -/
theorem iterationFollowsThePhaseGraph : Obligations.IterationFollowsThePhaseGraph := by
  refine ⟨fun _ _ => graphEdge_of_step, fun _ => exists_graphEdge, fun s n rest hph hn ha => ?_⟩
  obtain ⟨u, hstep, t, ht, hph', hagenda, hpend⟩ := exists_backAtTop_of_txchk hph hn ha
  have hlen : (n + if s.btn then 2 else 1) = (n + if s.btn then 1 else 0) + 1 := by split <;> rfl
  rw [hlen]
  exact ⟨t, (core_run_next hstep).trans ht.1, hph', hagenda, hpend, ne_txchk_of_step hstep ht⟩

/-! ### The hold -/

/-- A timer turn and a `CORE` turn lead from a held `DELAY` to `RXCHK`. -/
theorem run_of_held {s : State} {rest : List Turn} (hph : s.ph = .delay) (ht : s.tmr = .running)
    (ha : s.agenda = .tmr :: .core :: rest) :
    Sys2Proof.core.run 2 s =
      .next { s with ph := .rxchk, tmr := .idle, agenda := rest, trace := s.trace ++ [.waitdone] } := by
  rw [core_run_next (step_of_timer ha ht)]
  exact core_run_next (step_of_coreStep rfl hph (.elapsed rfl))

/-- Settles O38: a branch of a phase goes along an edge, which moves the phase, or it is the hold, and the timer that is
in use and not done runs. -/
theorem coreIsHeldOnlyByTheTimer : Obligations.CoreIsHeldOnlyByTheTimer := by
  refine fun s => ⟨fun hi => ?core, fun ht => if_neg ht⟩
  case core =>
    obtain ⟨t, ht⟩ := CoreStep.exists_next s s.ph
    refine ⟨t, ht.exec_eq, ?_⟩
    obtain hedge | ⟨hph, htmr, rfl⟩ := ht.graphEdge rfl
    · exact .inl hedge.ne
    · have hrun : t.tmr = .running := by
        cases h : t.tmr with
        | idle => exact absurd h (hi.2 hph)
        | running => rfl
        | done => exact absurd h htmr
      exact .inr ⟨hph, hrun, rfl, fun rest ha => ⟨_, run_of_held hph hrun ha, rfl, rfl, rfl⟩⟩

end Sys2Proof.Machine
end

section
/-! The statements about the Frame Validator (43_validator.md R141 to R144). -/

namespace Sys2Proof.Machine

/-! ### The outcome of a frame and the output it drives -/

/-- The tests in their order, with the numbers of 43_validator.md R141. -/
theorem outcomeOf_eq (f : Frame) :
    outcomeOf f =
      if f.id ≠ 0x026#11 then .headerMismatch
      else if f.dlc ≠ 1#4 then .lengthMismatch
      else if f.p0 ≠ 0x04#8 then .payloadMismatch
      else .accepted := by
  simp only [outcomeOf, Frame.byte, Config.valId, Config.valLen, Config.valPayload_eq]

/-- The output of a frame's outcome is the one that its tests drive. -/
theorem outputOf_outcomeOf (f : Frame) : outputOf (outcomeOf f) = drives f := by
  rw [outcomeOf_eq, drives]
  split_ifs <;> rfl

/-! ### One validation -/

/-- A validation of a slot of outcome o: its output lit, output and outcome recorded, the outcome returned. -/
theorem exec_validate_of_outcome {s : State} (o : ValidationOutcome) (h : outcomeOf s.slot = o) :
    exec .validate s =
      .next { s with
        diag := withDiag s.diag (outputOf o)
        ret := .outcome o
        trace := s.trace ++ [.setdiag (outputOf o), .valresult o] } := by
  rw [exec_validate, h, report_spec]

/-- Settles O39: each conjunct is a branch of the tests, and what follows a test is the report of its outcome. -/
theorem validateClassifiesTheSlot : Obligations.ValidateClassifiesTheSlot := by
  refine ⟨⟨rfl, rfl, rfl, rfl⟩, fun s =>
    ⟨fun hid => ?header, fun hid hdlc => ?length, fun hid hdlc hp0 => ?payload, fun hid hdlc hp0 => ?accepted⟩⟩
  case header => exact exec_validate_of_outcome .headerMismatch (by simp [outcomeOf_eq, hid])
  case length => exact exec_validate_of_outcome .lengthMismatch (by simp [outcomeOf_eq, hid, hdlc])
  case payload => exact exec_validate_of_outcome .payloadMismatch (by simp [outcomeOf_eq, hid, hdlc, hp0])
  case accepted => exact exec_validate_of_outcome .accepted ((outcomeOf_accepted_iff s.slot).2 ⟨hid, hdlc, hp0⟩)

/-- Settles O41: a report writes the diagnostics, the result and the trace alone, and the outcome is the slot's. -/
theorem validateTouchesOnlyDiagnostics : Obligations.ValidateTouchesOnlyDiagnostics :=
  fun _ => ⟨_, _, exec_validate_of_outcome _ rfl, rfl, rfl, rfl, rfl, rfl, rfl, rfl, rfl, rfl,
    fun _ hslot => ⟨_, exec_validate_of_outcome _ (congrArg outcomeOf hslot), rfl⟩⟩

/-! ### One validation after another -/

/-- The first frame of a list is validated, and the rest from the state its report leaves. -/
theorem validateEach_cons (s : State) (f : Frame) (fs : List Frame) :
    validateEach s (f :: fs) = validateEach (report (outcomeOf f) (s.setSlot f)) fs := rfl

/-- A report lights the output of its outcome and keeps the others. -/
theorem diagBit_report (o : ValidationOutcome) (s : State) (k : DiagIndex) :
    diagBit (report o s).diag k = (diagBit s.diag k || decide (outputOf o = k)) := by
  rw [report_spec, diagBit_withDiag, Bool.or_comm, decide_eq_decide.2 eq_comm]

/-- Settles O40, by induction on the list: the first frame lights the output it drives, the rest those they drive. -/
theorem diagnosticsAccumulate : Obligations.DiagnosticsAccumulate := by
  intro fs
  induction fs with
  | nil => exact fun s => ⟨s, rfl, fun k => (Bool.or_false _).symm⟩
  | cons f fs ih =>
    intro s
    obtain ⟨t, ht, hdiag⟩ := ih (report (outcomeOf f) (s.setSlot f))
    refine ⟨t, (validateEach_cons s f fs).trans ht, fun k => ?_⟩
    calc diagBit t.diag k
        = (diagBit (report (outcomeOf f) (s.setSlot f)).diag k || fs.any fun g => decide (drives g = k)) := hdiag k
      _ = ((diagBit s.diag k || decide (drives f = k)) || fs.any fun g => decide (drives g = k)) := by
          rw [diagBit_report, outputOf_outcomeOf, State.setSlot_diag]
      _ = (diagBit s.diag k || (f :: fs).any fun g => decide (drives g = k)) := by
          rw [List.any_cons, Bool.or_assoc]

end Sys2Proof.Machine
end

section
/-! What the bus turn makes of its word (30_encoding.md R70, R78; 70_reset_and_hazards.md R183): a word that is no
Frame is rejected, every other one delivered. -/

namespace Sys2Proof

/-- A number the bus can present that is no Frame's word: of more than 79 bits, or with a dataLength code above 8. -/
def IsNoFrame (fw : Nat) : Prop := 2 ^ 79 ≤ fw ∨ (fw < 2 ^ 79 ∧ 8 < fw / 2 ^ 64 % 16)

/-- A number of at most 79 bits is the frame word of a register. -/
theorem exists_eq_toFW_of_lt {n : Nat} (h : n < 2 ^ 79) : ∃ f : Frame, n = f.toFW.toNat :=
  (eq_toFW_or_frameBits_error n).resolve_right fun he => nomatch (if_pos h).symm.trans he

/-- Bits 67:64 of a frame word are its dataLength code (30_encoding.md R71). -/
theorem Frame.toFW_div_mod_eq_dlc (f : Frame) : f.toFW.toNat / 2 ^ 64 % 16 = f.dlc.toNat := by
  have hdlc : f.toFW.extractLsb' 64 4 = f.dlc := congrArg Frame.dlc f.ofFW_toFW
  rw [← hdlc, BitVec.extractLsb'_toNat, Nat.shiftRight_eq_div_pow]

/-- The word of a register is no Frame's exactly where its dataLength code is reserved. -/
theorem isNoFrame_toFW_iff (f : Frame) : IsNoFrame f.toFW.toNat ↔ 8 < f.dlc.toNat := by
  have hlt : f.toFW.toNat < 2 ^ 79 := f.toFW.isLt
  rw [IsNoFrame, f.toFW_div_mod_eq_dlc]
  omega

/-- A word that is no Frame's is rejected by the delivery's decoder. -/
theorem decode_deliver_of_isNoFrame {fw : Nat} (h : IsNoFrame fw) :
    ∃ r, decode { sel := .reqDeliver, bits := fw } = .error r := by
  obtain ⟨-, hreserved, -, hwide⟩ := Machine.reservedWordsAreRejectedByName
  by_cases hlt : fw < 2 ^ 79
  · obtain ⟨f, rfl⟩ := exists_eq_toFW_of_lt hlt
    exact ⟨_, hreserved f ((isNoFrame_toFW_iff f).1 h)⟩
  · exact ⟨_, hwide fw (Nat.not_lt.1 hlt)⟩

/-- Every other word is read as the delivery of a Frame. -/
theorem decode_deliver_of_not_isNoFrame {fw : Nat} (h : ¬ IsNoFrame fw) :
    ∃ f : WireFrame, f.data.length ≤ 8 ∧ decode { sel := .reqDeliver, bits := fw } = .ok (.deliver f) := by
  obtain ⟨f, rfl⟩ := exists_eq_toFW_of_lt (Nat.lt_of_not_le fun hwide => h (.inl hwide))
  have hdlc : f.dlc.toNat ≤ 8 := Nat.not_lt.1 (mt (isNoFrame_toFW_iff f).2 h)
  exact ⟨f.toWire, f.length_toWire_le, (wireOperand_toFW _ f).trans (if_pos hdlc)⟩

/-- The word of a bus frame is read as the delivery of that frame. -/
theorem decode_deliver_toFW {g : WireFrame} (hg : g.data.length ≤ 8) :
    decode { sel := .reqDeliver, bits := g.toFW.toNat } = .ok (.deliver g) := by
  refine (wireOperand_toFW _ (g.toFrame fun _ => 0#8)).trans ?_
  rw [g.toFrame_dlc hg, if_pos hg, g.toWire_toFrame hg]

namespace Machine

/-- The delivery of a Frame answers a next state, passed by the filter or stopped. -/
theorem exists_next_of_exec_deliver {f : WireFrame} (hf : f.data.length ≤ 8) (s : State) :
    ∃ t, exec (.deliver f) s = .next t := by
  cases hp : filterPass s f with
  | true => exact ⟨_, exec_deliver_passed hf hp⟩
  | false => exact ⟨_, exec_deliver_stopped hf hp⟩

/-- A bus turn is refused with the reason where its word is no Frame's. -/
theorem run_bus_of_isNoFrame {fw : Nat} (h : IsNoFrame fw) (s : State) :
    ∃ r, run (takeTurn (.bus fw) s) = .refused (.rejectedWord r) := by
  obtain ⟨r, hr⟩ := decode_deliver_of_isNoFrame h
  exact ⟨r, by rw [run_bus, hr]⟩

/-- A turn answers a next state, whatever the state, unless it presents a word that is no Frame's. -/
theorem exists_next_of_turn {T : Turn} (h : ∀ fw, T = .bus fw → ¬ IsNoFrame fw) (s : State) :
    ∃ t, run (takeTurn T s) = .next t := by
  cases T with
  | core =>
    obtain ⟨t, ht⟩ := CoreStep.exists_next s s.ph
    exact ⟨t, (run_core s).trans ht.exec_eq⟩
  | bus fw =>
    obtain ⟨f, hf, hdecode⟩ := decode_deliver_of_not_isNoFrame (h fw rfl)
    rw [run_bus, hdecode]
    exact exists_next_of_exec_deliver hf s
  | val => exact ⟨_, exec_validate s⟩
  | reset => exact ⟨_, exec_reset s⟩
  | btn v => exact ⟨_, run_btn v s⟩
  | tmr => exact ⟨_, run_tmr s⟩
  | answer r => exact ⟨_, run_answer r s⟩
  | tail bs => exact ⟨_, run_tail bs s⟩

/-- A listed turn that presents a Frame the filter passes delivers it. -/
theorem step_of_delivery {g : WireFrame} {s : State} {rest : List Turn} (hg : g.data.length ≤ 8)
    (hpass : g ∉ s.filterStops) (ha : s.agenda = .bus g.toFW.toNat :: rest) :
    step s = .next (deliver g (s.setAgenda rest)) := by
  rw [step_cons s _ rest ha, run_bus, decode_deliver_toFW hg]
  exact exec_deliver_passed hg (filterPass_of_notMem hpass)

/-- After the delivery of a frame the slot spells it. -/
theorem toWire_deliver_slot {g : WireFrame} (hg : g.data.length ≤ 8) (s : State) :
    (deliver g s).slot.toWire = g := by
  rw [deliver_spec]
  exact g.toWire_toFrame hg _

end Machine

end Sys2Proof
end

section
/-! The statements about refusals and about events that meet (60_exceptions.md R150, R156). -/

namespace Sys2Proof.Machine

/-- Settles O48: the turn that presents no Frame is refused by the decoder, and every other turn answers. -/
theorem onlyANonFrameIsRefused : Obligations.OnlyANonFrameIsRefused := by
  intro s
  refine ⟨fun ⟨fw, hT, hfw⟩ => ?refused, fun hno => ?answered⟩
  case refused =>
    obtain ⟨r, hr⟩ := run_bus_of_isNoFrame hfw (nextTurn s).2
    exact ⟨r, by rw [step_eq, ← turnOf, hT, hr]⟩
  case answered => exact exists_next_of_turn (fun fw hT hfw => hno ⟨fw, hT, hfw⟩) (nextTurn s).2

/-- Settles O58: the delivery writes the slot and `RXPEND`, the release `RXPEND` and `PH`, so the slot holds g in
either order and `RXPEND` is what the later of the two wrote. -/
theorem deliveryAndReleaseInEitherOrder : Obligations.DeliveryAndReleaseInEitherOrder := by
  intro g s rest hg hpass hack
  refine ⟨fun ha => ?deliveryFirst, fun ha => ?releaseFirst⟩
  case deliveryFirst =>
    have hdelivery := step_of_delivery hg hpass ha
    have hrelease := step_of_coreStep (s := deliver g (s.setAgenda (.core :: rest))) rfl hack .acknowledged
    exact ⟨_, (core_run_next hdelivery).trans (core_run_next hrelease), toWire_deliver_slot hg _, rfl, rfl⟩
  case releaseFirst =>
    have hrelease := step_of_coreStep ha hack .acknowledged
    exact ⟨_, (core_run_next hrelease).trans (core_run_next (step_of_delivery hg hpass rfl)),
      toWire_deliver_slot hg _, rfl, rfl⟩

end Sys2Proof.Machine
end

section
/-! The statements about reset and about the frames the two receivers accept (70_reset_and_hazards.md R170, R178). -/

namespace Sys2Proof.Machine

/-! ### The two tests of a frame -/

/-- The loop's test wants 10 in the first byte and the validator's 4. -/
theorem outcomeOf_ne_accepted_of_p0 {f : Frame} (hp0 : f.p0 = 0x0A#8) : outcomeOf f ≠ .accepted := by
  intro haccepted
  obtain ⟨-, -, hfour⟩ := (outcomeOf_accepted_iff f).1 haccepted
  exact absurd (hp0.symm.trans hfour) (by decide)

/-- The status frame passes the loop's test: its only meaningful byte is the first. -/
theorem grpchk_toFrame_enc (fill : Fin 8 → Byte) : grpchk (enc.toFrame fill) = true := by
  rw [grpchk_iff, enc_eq]
  rfl

/-- The status frame fails the validator's first test: its identifier is 26, not 0x026. -/
theorem outcomeOf_toFrame_enc (fill : Fin 8 → Byte) : outcomeOf (enc.toFrame fill) = .headerMismatch := by
  have hid : (enc.toFrame fill).id ≠ 0x026#11 := (by decide : Config.groupId ≠ 0x026#11)
  rw [outcomeOf_eq, if_pos hid]

/-- Settles O43: a frame's first byte decides against one of the two tests; the status frame passes the loop's and
fails the validator's by its first byte and its identifier, which no filling touches. -/
theorem noFramePassesBothTests : Obligations.NoFramePassesBothTests := by
  refine ⟨fun f s => ?anyFrame, fun s fill => ?statusFrame⟩
  case anyFrame =>
    exact ⟨_, outcomeOf f, grpchkComparesTheWholeFirstByte f s, exec_validate_of_outcome _ rfl, rfl,
      outcomeOf_accepted_iff f, fun ⟨hp0, haccepted⟩ => outcomeOf_ne_accepted_of_p0 hp0 haccepted⟩
  case statusFrame =>
    rw [← enc_eq]
    refine ⟨?_, _, exec_validate_of_outcome _ (outcomeOf_toFrame_enc fill), rfl⟩
    rw [exec_grpchk, grpchk_toFrame_enc]
    rfl

/-! ### Reset -/

/-- Settles O45: the registers a reset writes are those of the launch state, but for the three it draws. -/
theorem resetRestartsTheBlock : Obligations.ResetRestartsTheBlock :=
  ⟨rfl, rfl, fun s => ⟨_, _, _, _, exec_reset s⟩⟩

/-- Settles O53: the loop stands in `TXCHK` with the timer idle, where no frame is held and no pattern written, and
the one event recorded leaves the trace at the top; none of the four reads what is free at launch. -/
theorem invariantsHoldAtReset : Obligations.InvariantsHoldAtReset := by
  rintro ts sel stops f x b s rfl
  refine ⟨?timer, ?pending, ?display, ?trace⟩
  case timer => exact ⟨fun hbusy => absurd rfl hbusy, nofun⟩
  case pending => exact fun hholds => nomatch hholds
  case display => exact ⟨nofun, nofun, nofun, nofun, nofun⟩
  case trace => exact after_standsAt_reset sel .txchk f

end Sys2Proof.Machine
end

section
/-! Decoding reads back what encoding writes (30_encoding.md sections 1 to 3). -/

namespace Sys2Proof

/-! ### The frame words -/

/-- A frame well formed as `RX.GROUP` passes the loop's test of its first byte (30_encoding.md R73). -/
theorem loopClass_eq_rxGroup {f : Frame} (h : (Instr.rxGroup f).wellFormed = true) : loopClass f = .rxGroup f :=
  if_pos h

/-- A frame well formed as `RX.OTHER` fails it. -/
theorem loopClass_eq_rxOther {f : Frame} (h : (Instr.rxOther f).wellFormed = true) : loopClass f = .rxOther f :=
  if_neg (bne_iff_ne.1 h ∘ beq_iff_eq.1)

/-- A frame is well formed in the class of one outcome only, the outcome its tests give. -/
theorem outcomeOf_eq_of_wellFormed {o : ValidationOutcome} {f : Frame}
    (h : (validatorClass o f).wellFormed = true) : Machine.outcomeOf f = o := by
  rw [Machine.outcomeOf_eq]
  cases o with
  | headerMismatch =>
    have hid : f.id ≠ 0x026#11 := bne_iff_ne.1 h
    rw [if_pos hid]
  | lengthMismatch =>
    obtain ⟨hid, hdlc⟩ : f.id = 0x026#11 ∧ f.dlc ≠ 1#4 := by
      simpa [validatorClass, Instr.wellFormed, Config.valId, Config.valLen] using h
    simp [hid, hdlc]
  | payloadMismatch =>
    obtain ⟨⟨hid, hdlc⟩, hp0⟩ : (f.id = 0x026#11 ∧ f.dlc = 1#4) ∧ f.p0 ≠ 0x04#8 := by
      simpa [validatorClass, Instr.wellFormed, Config.valId, Config.valLen] using h
    simp [hid, hdlc, hp0]
  | accepted =>
    obtain ⟨⟨hid, hdlc⟩, hp0⟩ : (f.id = 0x026#11 ∧ f.dlc = 1#4) ∧ f.p0 = 0x04#8 := by
      simpa [validatorClass, Instr.wellFormed, Config.valId, Config.valLen] using h
    simp [hid, hdlc, hp0]

/-- The word of a class of the validator path is read back as that class. -/
theorem decode_encode_validatorClass {o : ValidationOutcome} {f : Frame}
    (h : (validatorClass o f).wellFormed = true) :
    decode (encode (validatorClass o f)) = .ok (validatorClass o f) := by
  have hword : encode (validatorClass o f) = { sel := .fwVal, bits := f.toFW.toNat } := by cases o <;> rfl
  rw [hword, decode_fwVal, outcomeOf_eq_of_wellFormed h]

/-- The word of a frame register is read back as an operation on that register. -/
theorem frameOperand_toFW (op : Frame → Instr) (f : Frame) : frameOperand op f.toFW.toNat = .ok (op f) := by
  simp [frameOperand]

/-- The word of a bus frame is read back as an operation on that frame. -/
theorem wireOperand_wire_toFW (op : WireFrame → Instr) {g : WireFrame} (hg : g.data.length ≤ 8) :
    wireOperand op g.toFW.toNat = .ok (op g) := by
  refine (wireOperand_toFW op (g.toFrame fun _ => 0#8)).trans ?_
  rw [g.toFrame_dlc hg, if_pos hg, g.toWire_toFrame hg]

/-! ### The operands of fewer bits -/

/-- A display byte is read back whole. -/
theorem decode_encode_dec (b : Byte) : decode (encode (.dec b)) = .ok (.dec b) := by
  simp [decode, encode, b.isLt]

/-- A pattern is read back whole. -/
theorem decode_encode_patbyte (pat : Pattern) : decode (encode (.patbyte pat)) = .ok (.patbyte pat) := by
  have hbits : pat.toNat < 16 := pat.isLt
  simp [decode, encode, hbits]

/-- The index and the level of an output operand are read back from the bits `IIV` they were put in. -/
theorem decode_encode_setout (k : BitVec 2) (v : Bool) : decode (encode (.setout k v)) = .ok (.setout k v) := by
  have hk : k.toNat < 4 := k.isLt
  have hv : v.toNat < 2 := v.toNat_lt
  have hbits : 2 * k.toNat + v.toNat < 8 := by omega
  have hindex : (2 * k.toNat + v.toNat) / 2 = k.toNat := by omega
  have hlevel : (v.toNat % 2 == 1) = v := by cases v <;> rfl
  simp [decode, encode, setoutOperand, hbits, hindex, hlevel]

/-- Settles O1, operation by operation: a frame is well formed in its own class only, a bus frame of at most eight
bytes is cut back out of its word, and each of the other operands is read from the bits it was put in. -/
theorem decodeInvertsEncode : Obligations.DecodeInvertsEncode := by
  intro i h
  cases i with
  | status => rfl
  | rxGroup f => exact (decode_fwRx f).trans (congrArg _ (loopClass_eq_rxGroup h))
  | rxOther f => exact (decode_fwRx f).trans (congrArg _ (loopClass_eq_rxOther h))
  | valAccepted f => exact decode_encode_validatorClass (o := .accepted) h
  | valPayloadMismatch f => exact decode_encode_validatorClass (o := .payloadMismatch) h
  | valLengthMismatch f => exact decode_encode_validatorClass (o := .lengthMismatch) h
  | valHeaderMismatch f => exact decode_encode_validatorClass (o := .headerMismatch) h
  | dec b => exact decode_encode_dec b
  | deliver f | transmit f => exact wireOperand_wire_toFW _ (f.wellFormed_iff.1 h)
  | setout k v => exact decode_encode_setout k v
  | setdiag k => cases k <;> rfl
  | wait half => cases half <;> rfl
  | grpchk f | selbyte f => exact frameOperand_toFW _ f
  | patbyte pat => exact decode_encode_patbyte pat
  | txchk | delay | rxchk | clr | set0 | set1 | set2 | set3 | ack => rfl
  | validate | reset => rfl
  | poll | clrpend | btnrd | clrout | enc => rfl

end Sys2Proof
end
